-- ==== Sys2Proof/Word.lean ====
section
/-! DEFINITION. The word of the unit (00_scope.md section 4.1) and the packet, a sequence of words (R29, R30). -/

namespace Sys2Proof

/-- A word is 32 bits; bit 0 is the least significant (00_scope.md section 4.1). -/
abbrev Word := BitVec 32

/-- A request or a response: a sequence of whole words, the first one first (R29, R30). -/
abbrev Packet := List Word

end Sys2Proof
end

