-- ==== Sys2Proof/Syntax.lean ====
section
/-! DEFINITION. The operations of the unit: composite operands (R33) and one constructor per operation (R31). -/

namespace Sys2Proof

/-- VEC3: components `x`, `y`, `z`, in that order of words (R33). With `Word` it is an operand as presented, with `Int`
the three raw Q16.16 integers. -/
structure Vec3 (α : Type) where
  x : α
  y : α
  z : α
  deriving DecidableEq, Repr

/-- QUAT: components `w`, `x`, `y`, `z`, in that order of words (R33). -/
structure Quat (α : Type) where
  w : α
  x : α
  y : α
  z : α
  deriving DecidableEq, Repr

/-- MAT3: nine entries, row-major (R33); row `i` holds `A[i][0]`, `A[i][1]`, `A[i][2]`. -/
structure Mat3 (α : Type) where
  r0 : Vec3 α
  r1 : Vec3 α
  r2 : Vec3 α
  deriving DecidableEq, Repr

/-- LOG32: `sign` then `log` (R33). The sign word of an operand is legal only as -1, 0 or 1 (R34 (d)). -/
structure Log32 (α : Type) where
  sign : α
  log : α
  deriving DecidableEq, Repr

/-- An instruction of the unit: one operation with its operand words as the host presents them (R29, R31). No operand
bit is dropped here; the operand formats of R32 are read in `Machine/Operands.lean`. -/
inductive Instr where
  /-- `0x01` BITSCAN (R35). -/
  | bitscan (v : Word)
  /-- `0x10` LOG2 (R40). -/
  | log2 (v : Word)
  /-- `0x11` EXP2 (R41). -/
  | exp2 (y : Word)
  /-- `0x12` MUL_APPROX (R42). -/
  | mulApprox (a b : Word)
  /-- `0x13` DIV_APPROX (R43). -/
  | divApprox (n d : Word)
  /-- `0x14` POW_APPROX (R44). -/
  | powApprox (a k : Word)
  /-- `0x20` MUL_EXACT (R46). -/
  | mulExact (a b : Word)
  /-- `0x21` DIV_EXACT (R47). -/
  | divExact (n d : Word)
  /-- `0x22` QMUL_APPROX (R48). -/
  | qmulApprox (a b : Word)
  /-- `0x23` QDIV_APPROX (R49). -/
  | qdivApprox (n d : Word)
  /-- `0x24` SQRT (R50). -/
  | sqrt (x : Word)
  /-- `0x25` INVERSE_SQRT (R51). -/
  | inverseSqrt (x : Word)
  /-- `0x26` LERP (R52). -/
  | lerp (a b t : Word)
  /-- `0x30` SIN (R53). -/
  | sin (angle : Word)
  /-- `0x31` COS (R54). -/
  | cos (angle : Word)
  /-- `0x32` ATAN2 (R55). -/
  | atan2 (y x : Word)
  /-- `0x33` ACOS (R56). -/
  | acos (x : Word)
  /-- `0x40` VEC3_ADD (R57). -/
  | vec3Add (a b : Vec3 Word)
  /-- `0x41` VEC3_SUB (R58). -/
  | vec3Sub (a b : Vec3 Word)
  /-- `0x42` VEC3_DOT (R59). -/
  | vec3Dot (a b : Vec3 Word)
  /-- `0x43` VEC3_CROSS (R60). -/
  | vec3Cross (a b : Vec3 Word)
  /-- `0x44` VEC3_LENGTH (R61). -/
  | vec3Length (v : Vec3 Word)
  /-- `0x45` VEC3_NORMALIZE (R62). -/
  | vec3Normalize (v : Vec3 Word)
  /-- `0x46` MAT3_MUL (R63). -/
  | mat3Mul (a b : Mat3 Word)
  /-- `0x47` MAT3_MUL_VEC3 (R64). -/
  | mat3MulVec3 (a : Mat3 Word) (v : Vec3 Word)
  /-- `0x48` MAT3_ROTATION_EULER (R65). -/
  | mat3RotationEuler (ax ay az : Word)
  /-- `0x49` QUAT_FROM_AXIS_ANGLE (R66). -/
  | quatFromAxisAngle (axis : Vec3 Word) (angle : Word)
  /-- `0x4A` QUAT_ROTATE_VEC (R67). -/
  | quatRotateVec (q : Quat Word) (v : Vec3 Word)
  /-- `0x4B` QUAT_NORMALIZE (R68). -/
  | quatNormalize (q : Quat Word)
  /-- `0x4C` PROJECT_PERSPECTIVE (R69). -/
  | projectPerspective (v : Vec3 Word) (focal : Word)
  /-- `0x4D` PIPELINE_MVP (R70). -/
  | pipelineMvp (v : Vec3 Word) (scale ax ay az : Word) (t : Vec3 Word) (focal : Word)
  /-- `0x4E` PIPELINE_MVP_FUSED (R71). -/
  | pipelineMvpFused (v : Vec3 Word) (scale ax ay az : Word) (t : Vec3 Word) (focal : Word)
  /-- `0x50` TO_LOG32 (R73). -/
  | toLog32 (v : Word)
  /-- `0x51` FROM_LOG32 (R74). -/
  | fromLog32 (a : Log32 Word)
  /-- `0x52` LOG32_MUL (R75). -/
  | log32Mul (a b : Log32 Word)
  /-- `0x53` LOG32_DIV (R76). -/
  | log32Div (a b : Log32 Word)
  /-- `0x54` LOG32_ADD (R77). -/
  | log32Add (a b : Log32 Word)
  /-- `0x55` LOG32_POW (R78). -/
  | log32Pow (a : Log32 Word) (k : Word)
  deriving DecidableEq, Repr

/-- The operations without their operands: the legal values of the header's `OP` field by name (R31). -/
inductive Op where
  | bitscan | log2 | exp2 | mulApprox | divApprox | powApprox
  | mulExact | divExact | qmulApprox | qdivApprox | sqrt | inverseSqrt | lerp
  | sin | cos | atan2 | acos
  | vec3Add | vec3Sub | vec3Dot | vec3Cross | vec3Length | vec3Normalize
  | mat3Mul | mat3MulVec3 | mat3RotationEuler
  | quatFromAxisAngle | quatRotateVec | quatNormalize
  | projectPerspective | pipelineMvp | pipelineMvpFused
  | toLog32 | fromLog32 | log32Mul | log32Div | log32Add | log32Pow
  deriving DecidableEq, Repr

/-- Why a request is illegal: the four clauses of R34. A request that breaks several is illegal once (R82); which clause
is named then is the model's choice, settled by `decode`: the first of (b), (a), (c), (d) that it breaks (log entry 6,
DESIGN CHOICE, safe). -/
inductive Illegal where
  /-- R34 (a): `OP` is not one of the 38 codes. -/
  | unassignedOp
  /-- R34 (b): `RSVD` is not zero. -/
  | reservedBits
  /-- R34 (c): the packet does not have exactly `1 + NOPND` words. -/
  | wordCount
  /-- R34 (d): the sign word of a LOG32 operand is not -1, 0 or 1. -/
  | ringSign
  deriving DecidableEq, Repr

end Sys2Proof
end

