-- ==== Sys2Proof/WellFormed.lean ====
section
/-! DEFINITION. Which instructions a legal request can carry: every operand word is legal but for the sign word of a
LOG32 operand (R32, R33, R34 (d)). -/

namespace Sys2Proof

/-- The legal sign words: -1 (`0xFFFFFFFF`), 0 and 1 (R33). -/
def ringSignLegal (w : Word) : Bool :=
  w == 0xFFFFFFFF#32 || w == 0#32 || w == 1#32

/-- A LOG32 operand is legal when its sign word is; its log word may be anything (R34, R72 (a)). -/
def Log32.legal (a : Log32 Word) : Bool :=
  ringSignLegal a.sign

/-- R34 (d), the one condition on operand words. -/
def Instr.wellFormed : Instr → Bool
  | .bitscan _ => true
  | .log2 _ => true
  | .exp2 _ => true
  | .mulApprox _ _ => true
  | .divApprox _ _ => true
  | .powApprox _ _ => true
  | .mulExact _ _ => true
  | .divExact _ _ => true
  | .qmulApprox _ _ => true
  | .qdivApprox _ _ => true
  | .sqrt _ => true
  | .inverseSqrt _ => true
  | .lerp _ _ _ => true
  | .sin _ => true
  | .cos _ => true
  | .atan2 _ _ => true
  | .acos _ => true
  | .vec3Add _ _ => true
  | .vec3Sub _ _ => true
  | .vec3Dot _ _ => true
  | .vec3Cross _ _ => true
  | .vec3Length _ => true
  | .vec3Normalize _ => true
  | .mat3Mul _ _ => true
  | .mat3MulVec3 _ _ => true
  | .mat3RotationEuler _ _ _ => true
  | .quatFromAxisAngle _ _ => true
  | .quatRotateVec _ _ => true
  | .quatNormalize _ => true
  | .projectPerspective _ _ => true
  | .pipelineMvp _ _ _ _ _ _ _ => true
  | .pipelineMvpFused _ _ _ _ _ _ _ => true
  | .toLog32 _ => true
  | .fromLog32 a => a.legal
  | .log32Mul a b => a.legal && b.legal
  | .log32Div a b => a.legal && b.legal
  | .log32Add a b => a.legal && b.legal
  | .log32Pow a _ => a.legal

end Sys2Proof
end

