-- ==== Sys2Proof/Decode.lean ====
section
/-! DEFINITION. Request packets: the operation table of R31, the decoder (total; it rejects by the clause of R34) and
the encoder, both from the same table. -/

namespace Sys2Proof

/-- The select code `OP` (R31). -/
def Op.code : Op → Nat
  | .bitscan => 0x01
  | .log2 => 0x10
  | .exp2 => 0x11
  | .mulApprox => 0x12
  | .divApprox => 0x13
  | .powApprox => 0x14
  | .mulExact => 0x20
  | .divExact => 0x21
  | .qmulApprox => 0x22
  | .qdivApprox => 0x23
  | .sqrt => 0x24
  | .inverseSqrt => 0x25
  | .lerp => 0x26
  | .sin => 0x30
  | .cos => 0x31
  | .atan2 => 0x32
  | .acos => 0x33
  | .vec3Add => 0x40
  | .vec3Sub => 0x41
  | .vec3Dot => 0x42
  | .vec3Cross => 0x43
  | .vec3Length => 0x44
  | .vec3Normalize => 0x45
  | .mat3Mul => 0x46
  | .mat3MulVec3 => 0x47
  | .mat3RotationEuler => 0x48
  | .quatFromAxisAngle => 0x49
  | .quatRotateVec => 0x4A
  | .quatNormalize => 0x4B
  | .projectPerspective => 0x4C
  | .pipelineMvp => 0x4D
  | .pipelineMvpFused => 0x4E
  | .toLog32 => 0x50
  | .fromLog32 => 0x51
  | .log32Mul => 0x52
  | .log32Div => 0x53
  | .log32Add => 0x54
  | .log32Pow => 0x55

/-- `NOPND`, the number of operand words (R31). -/
def Op.nopnd : Op → Nat
  | .bitscan | .log2 | .exp2 | .sqrt | .inverseSqrt | .sin | .cos | .acos | .toLog32 => 1
  | .mulApprox | .divApprox | .powApprox | .mulExact | .divExact | .qmulApprox | .qdivApprox | .atan2 | .fromLog32 => 2
  | .lerp | .vec3Length | .vec3Normalize | .mat3RotationEuler | .log32Pow => 3
  | .quatFromAxisAngle | .quatNormalize | .projectPerspective | .log32Mul | .log32Div | .log32Add => 4
  | .vec3Add | .vec3Sub | .vec3Dot | .vec3Cross => 6
  | .quatRotateVec => 7
  | .pipelineMvp | .pipelineMvpFused => 11
  | .mat3MulVec3 => 12
  | .mat3Mul => 18

/-- `NRES`, the number of result words (R31). -/
def Op.nres : Op → Nat
  | .bitscan | .log2 | .exp2 | .mulApprox | .divApprox | .powApprox => 1
  | .mulExact | .divExact | .qmulApprox | .qdivApprox | .sqrt | .inverseSqrt | .lerp => 1
  | .sin | .cos | .atan2 | .acos => 1
  | .vec3Dot | .vec3Length | .fromLog32 => 1
  | .toLog32 | .log32Mul | .log32Div | .log32Add | .log32Pow => 2
  | .vec3Add | .vec3Sub | .vec3Cross | .vec3Normalize | .mat3MulVec3 | .quatRotateVec => 3
  | .projectPerspective | .pipelineMvp | .pipelineMvpFused => 3
  | .quatFromAxisAngle | .quatNormalize => 4
  | .mat3Mul | .mat3RotationEuler => 9

/-- The operation of layer 1 (R31). -/
def Op.layer1 : List Op := [.bitscan]

/-- The operations of layer 2 (R31). -/
def Op.layer2 : List Op := [.log2, .exp2, .mulApprox, .divApprox, .powApprox]

/-- The operations of layer 3 (R31). -/
def Op.layer3 : List Op := [.mulExact, .divExact, .qmulApprox, .qdivApprox, .sqrt, .inverseSqrt, .lerp]

/-- The operations of layer 4 (R31). -/
def Op.layer4 : List Op := [.sin, .cos, .atan2, .acos]

/-- The operations of layer 5 (R31). -/
def Op.layer5 : List Op :=
  [.vec3Add, .vec3Sub, .vec3Dot, .vec3Cross, .vec3Length, .vec3Normalize, .mat3Mul, .mat3MulVec3, .mat3RotationEuler,
    .quatFromAxisAngle, .quatRotateVec, .quatNormalize, .projectPerspective, .pipelineMvp, .pipelineMvpFused]

/-- The operations of layer 6 (R31). -/
def Op.layer6 : List Op := [.toLog32, .fromLog32, .log32Mul, .log32Div, .log32Add, .log32Pow]

/-- The 38 operations, in the order of R31. -/
def Op.all : List Op :=
  layer1 ++ layer2 ++ layer3 ++ layer4 ++ layer5 ++ layer6

/-- The operation a select code names, if it is one of the 38 (R31, R34 (a)). -/
def Op.ofCode (n : Nat) : Option Op :=
  Op.all.find? fun o => o.code == n

/-- `opnd[k]`: operand word `k` of the request, from 0 (00_scope.md section 4.2). -/
def opndWord (ws : List Word) (k : Nat) : Word :=
  ws.getD k 0#32

/-- The VEC3 operand whose first word is `opnd[k]` (R33). -/
def opndVec3 (ws : List Word) (k : Nat) : Vec3 Word :=
  ⟨opndWord ws k, opndWord ws (k + 1), opndWord ws (k + 2)⟩

/-- The QUAT operand whose first word is `opnd[k]` (R33). -/
def opndQuat (ws : List Word) (k : Nat) : Quat Word :=
  ⟨opndWord ws k, opndWord ws (k + 1), opndWord ws (k + 2), opndWord ws (k + 3)⟩

/-- The MAT3 operand whose first word is `opnd[k]` (R33). -/
def opndMat3 (ws : List Word) (k : Nat) : Mat3 Word :=
  ⟨opndVec3 ws k, opndVec3 ws (k + 3), opndVec3 ws (k + 6)⟩

/-- The LOG32 operand whose first word is `opnd[k]` (R33). -/
def opndLog32 (ws : List Word) (k : Nat) : Log32 Word :=
  ⟨opndWord ws k, opndWord ws (k + 1)⟩

/-- The instruction of an operation and its operand words, in the argument order of R31. -/
def Op.instr (o : Op) (ws : List Word) : Instr :=
  match o with
  | .bitscan => .bitscan (opndWord ws 0)
  | .log2 => .log2 (opndWord ws 0)
  | .exp2 => .exp2 (opndWord ws 0)
  | .mulApprox => .mulApprox (opndWord ws 0) (opndWord ws 1)
  | .divApprox => .divApprox (opndWord ws 0) (opndWord ws 1)
  | .powApprox => .powApprox (opndWord ws 0) (opndWord ws 1)
  | .mulExact => .mulExact (opndWord ws 0) (opndWord ws 1)
  | .divExact => .divExact (opndWord ws 0) (opndWord ws 1)
  | .qmulApprox => .qmulApprox (opndWord ws 0) (opndWord ws 1)
  | .qdivApprox => .qdivApprox (opndWord ws 0) (opndWord ws 1)
  | .sqrt => .sqrt (opndWord ws 0)
  | .inverseSqrt => .inverseSqrt (opndWord ws 0)
  | .lerp => .lerp (opndWord ws 0) (opndWord ws 1) (opndWord ws 2)
  | .sin => .sin (opndWord ws 0)
  | .cos => .cos (opndWord ws 0)
  | .atan2 => .atan2 (opndWord ws 0) (opndWord ws 1)
  | .acos => .acos (opndWord ws 0)
  | .vec3Add => .vec3Add (opndVec3 ws 0) (opndVec3 ws 3)
  | .vec3Sub => .vec3Sub (opndVec3 ws 0) (opndVec3 ws 3)
  | .vec3Dot => .vec3Dot (opndVec3 ws 0) (opndVec3 ws 3)
  | .vec3Cross => .vec3Cross (opndVec3 ws 0) (opndVec3 ws 3)
  | .vec3Length => .vec3Length (opndVec3 ws 0)
  | .vec3Normalize => .vec3Normalize (opndVec3 ws 0)
  | .mat3Mul => .mat3Mul (opndMat3 ws 0) (opndMat3 ws 9)
  | .mat3MulVec3 => .mat3MulVec3 (opndMat3 ws 0) (opndVec3 ws 9)
  | .mat3RotationEuler => .mat3RotationEuler (opndWord ws 0) (opndWord ws 1) (opndWord ws 2)
  | .quatFromAxisAngle => .quatFromAxisAngle (opndVec3 ws 0) (opndWord ws 3)
  | .quatRotateVec => .quatRotateVec (opndQuat ws 0) (opndVec3 ws 4)
  | .quatNormalize => .quatNormalize (opndQuat ws 0)
  | .projectPerspective => .projectPerspective (opndVec3 ws 0) (opndWord ws 3)
  | .pipelineMvp =>
    .pipelineMvp (opndVec3 ws 0) (opndWord ws 3) (opndWord ws 4) (opndWord ws 5) (opndWord ws 6) (opndVec3 ws 7)
      (opndWord ws 10)
  | .pipelineMvpFused =>
    .pipelineMvpFused (opndVec3 ws 0) (opndWord ws 3) (opndWord ws 4) (opndWord ws 5) (opndWord ws 6) (opndVec3 ws 7)
      (opndWord ws 10)
  | .toLog32 => .toLog32 (opndWord ws 0)
  | .fromLog32 => .fromLog32 (opndLog32 ws 0)
  | .log32Mul => .log32Mul (opndLog32 ws 0) (opndLog32 ws 2)
  | .log32Div => .log32Div (opndLog32 ws 0) (opndLog32 ws 2)
  | .log32Add => .log32Add (opndLog32 ws 0) (opndLog32 ws 2)
  | .log32Pow => .log32Pow (opndLog32 ws 0) (opndWord ws 2)

/-- What the decoder says of a packet: the instruction it carries, or the clause of R34 it breaks. -/
inductive Decoded where
  | instr (i : Instr)
  | illegal (why : Illegal)
  deriving DecidableEq, Repr

/-- The header's `OP` field, bits 7:0 (R31). -/
def headerOp (h : Word) : Nat :=
  (h.extractLsb' 0 8).toNat

/-- The header's `RSVD` field, bits 31:8 (R31). -/
def headerRsvd (h : Word) : Nat :=
  (h.extractLsb' 8 24).toNat

/-- The operand words of a request of operation `o`: the count (R34 (c)), then the sign words (R34 (d)); that order is
the model's choice (log entry 6, DESIGN CHOICE, safe). -/
def decodeOperands (o : Op) (ws : List Word) : Decoded :=
  if ws.length = o.nopnd then
    if (o.instr ws).wellFormed then .instr (o.instr ws) else .illegal .ringSign
  else .illegal .wordCount

/-- The decoder: total on any packet; it rejects by the clause of R34. R34 and R82 leave the clauses unordered; which one
is named for a packet that breaks several is the model's choice: the clauses are tested in the order (b) `RSVD`, (a) `OP`,
(c) word count, (d) sign words, so `0x00000100` is named `reservedBits` (log entry 6, DESIGN CHOICE, safe). A packet
without even a header word has a wrong word count (log entry 10, DEDUCED, safe). -/
def decode : Packet → Decoded
  | [] => .illegal .wordCount
  | h :: ws =>
    if headerRsvd h = 0 then
      match Op.ofCode (headerOp h) with
      | some o => decodeOperands o ws
      | none => .illegal .unassignedOp
    else .illegal .reservedBits

/-- The operation of an instruction. -/
def Instr.op : Instr → Op
  | .bitscan _ => .bitscan
  | .log2 _ => .log2
  | .exp2 _ => .exp2
  | .mulApprox _ _ => .mulApprox
  | .divApprox _ _ => .divApprox
  | .powApprox _ _ => .powApprox
  | .mulExact _ _ => .mulExact
  | .divExact _ _ => .divExact
  | .qmulApprox _ _ => .qmulApprox
  | .qdivApprox _ _ => .qdivApprox
  | .sqrt _ => .sqrt
  | .inverseSqrt _ => .inverseSqrt
  | .lerp _ _ _ => .lerp
  | .sin _ => .sin
  | .cos _ => .cos
  | .atan2 _ _ => .atan2
  | .acos _ => .acos
  | .vec3Add _ _ => .vec3Add
  | .vec3Sub _ _ => .vec3Sub
  | .vec3Dot _ _ => .vec3Dot
  | .vec3Cross _ _ => .vec3Cross
  | .vec3Length _ => .vec3Length
  | .vec3Normalize _ => .vec3Normalize
  | .mat3Mul _ _ => .mat3Mul
  | .mat3MulVec3 _ _ => .mat3MulVec3
  | .mat3RotationEuler _ _ _ => .mat3RotationEuler
  | .quatFromAxisAngle _ _ => .quatFromAxisAngle
  | .quatRotateVec _ _ => .quatRotateVec
  | .quatNormalize _ => .quatNormalize
  | .projectPerspective _ _ => .projectPerspective
  | .pipelineMvp _ _ _ _ _ _ _ => .pipelineMvp
  | .pipelineMvpFused _ _ _ _ _ _ _ => .pipelineMvpFused
  | .toLog32 _ => .toLog32
  | .fromLog32 _ => .fromLog32
  | .log32Mul _ _ => .log32Mul
  | .log32Div _ _ => .log32Div
  | .log32Add _ _ => .log32Add
  | .log32Pow _ _ => .log32Pow

/-- The words of a VEC3 (R33). -/
def Vec3.words (v : Vec3 Word) : List Word := [v.x, v.y, v.z]

/-- The words of a QUAT (R33). -/
def Quat.words (q : Quat Word) : List Word := [q.w, q.x, q.y, q.z]

/-- The words of a MAT3, row-major (R33). -/
def Mat3.words (m : Mat3 Word) : List Word := m.r0.words ++ m.r1.words ++ m.r2.words

/-- The words of a LOG32 (R33). -/
def Log32.words (a : Log32 Word) : List Word := [a.sign, a.log]

/-- The operand words of an instruction, in the order of R31. -/
def Instr.operands : Instr → List Word
  | .bitscan v => [v]
  | .log2 v => [v]
  | .exp2 y => [y]
  | .mulApprox a b => [a, b]
  | .divApprox n d => [n, d]
  | .powApprox a k => [a, k]
  | .mulExact a b => [a, b]
  | .divExact n d => [n, d]
  | .qmulApprox a b => [a, b]
  | .qdivApprox n d => [n, d]
  | .sqrt x => [x]
  | .inverseSqrt x => [x]
  | .lerp a b t => [a, b, t]
  | .sin angle => [angle]
  | .cos angle => [angle]
  | .atan2 y x => [y, x]
  | .acos x => [x]
  | .vec3Add a b => a.words ++ b.words
  | .vec3Sub a b => a.words ++ b.words
  | .vec3Dot a b => a.words ++ b.words
  | .vec3Cross a b => a.words ++ b.words
  | .vec3Length v => v.words
  | .vec3Normalize v => v.words
  | .mat3Mul a b => a.words ++ b.words
  | .mat3MulVec3 a v => a.words ++ v.words
  | .mat3RotationEuler ax ay az => [ax, ay, az]
  | .quatFromAxisAngle axis angle => axis.words ++ [angle]
  | .quatRotateVec q v => q.words ++ v.words
  | .quatNormalize q => q.words
  | .projectPerspective v focal => v.words ++ [focal]
  | .pipelineMvp v scale ax ay az t focal => v.words ++ [scale, ax, ay, az] ++ t.words ++ [focal]
  | .pipelineMvpFused v scale ax ay az t focal => v.words ++ [scale, ax, ay, az] ++ t.words ++ [focal]
  | .toLog32 v => [v]
  | .fromLog32 a => a.words
  | .log32Mul a b => a.words ++ b.words
  | .log32Div a b => a.words ++ b.words
  | .log32Add a b => a.words ++ b.words
  | .log32Pow a k => a.words ++ [k]

/-- The header word of an operation: `OP` in bits 7:0, `RSVD` zero (R31). -/
def Op.header (o : Op) : Word :=
  BitVec.ofNat 32 o.code

/-- The encoder: the request packet of an instruction (R29). -/
def encode (i : Instr) : Packet :=
  i.op.header :: i.operands

/-- Word `k` of a number whose bit 0 is bit 0 of the first word (the numbering of opcode_table.json). -/
def tableWord (w k : Nat) : Word :=
  BitVec.ofNat 32 (w >>> (32 * k))

/-- The operand words that follow the first word of `w`, as many as the operation in it takes; none where it names no
operation. -/
def tableOperands (w : Nat) : List Word :=
  match Op.ofCode (headerOp (tableWord w 0)) with
  | some o => (List.range o.nopnd).map fun k => tableWord w (k + 1)
  | none => []

/-- The request packet whose bits, numbered as opcode_table.json numbers them, are the low `nbits` bits of `w`, every
bit above them zero (log entry 12). -/
def tablePacket (nbits w : Nat) : Packet :=
  let bits := w % 2 ^ nbits
  tableWord bits 0 :: tableOperands bits

/-- The instruction the decoder reads from a row's bits. -/
def decodeTableWord (nbits w : Nat) : Option Instr :=
  match decode (tablePacket nbits w) with
  | .instr i => some i
  | .illegal _ => none

end Sys2Proof
end

