-- ==== Sys2Proof/Config.lean ====
section
/-! DEFINITION. The static configuration of a build: parameters (R4 to R7) and lookup tables (R14, R16 to R23), and the
named constants of 00_scope.md section 3. -/

namespace Sys2Proof

/-- The configuration (00_scope.md section 3; R8, R13, R14). `State` holds one and no step writes it (log entry 1). A
table is a list of integers: "an entry is an integer" (R17). -/
structure Config where
  /-- `LQ`, fraction bits of a logarithm (R4). -/
  lq : Nat
  /-- `EQ`, fraction bits of the entries of `EXP2_ROM` (R5). -/
  eq : Nat
  /-- `SIN_BITS` (R6). -/
  sinBits : Nat
  /-- `ATAN_BITS` (R6). -/
  atanBits : Nat
  /-- `ACOS_BITS` (R6). -/
  acosBits : Nat
  /-- `LOG_INTERP`: `true` is 1 (R7). -/
  logInterp : Bool
  /-- `MSB8` (R16). -/
  msb8 : List Int
  /-- `LOG2_ROM` (R18). -/
  log2Rom : List Int
  /-- `EXP2_ROM` (R19). -/
  exp2Rom : List Int
  /-- `SIN_ROM` (R20). -/
  sinRom : List Int
  /-- `COS_ROM` (R20). -/
  cosRom : List Int
  /-- `ATAN_ROM` (R21). -/
  atanRom : List Int
  /-- `ACOS_ROM` (R22). -/
  acosRom : List Int
  /-- `LSE_ROM` (R23). -/
  lseRom : List Int
  deriving DecidableEq, Repr

/-- `INT32_MIN`, the signed saturation minimum. -/
abbrev int32Min : Int := -2147483648

/-- `INT32_MAX`, the signed saturation maximum. -/
abbrev int32Max : Int := 2147483647

/-- `U32_MAX`, the unsigned saturation maximum. -/
abbrev u32Max : Int := 4294967295

/-- `LOG_ZERO`, the logarithm of zero: `INT32_MIN` for every `LQ` (C7, D8). -/
abbrev logZero : Int := int32Min

/-- `ONE`, the Q16.16 value 1.0. -/
abbrev one : Int := 65536

/-- `AMP`, the amplitude of the sine and cosine tables (R8). -/
abbrev amp : Int := 65536

/-- `FULL_TURN`. -/
abbrev fullTurn : Int := 65536

/-- `HALF_TURN`. -/
abbrev halfTurn : Int := 32768

/-- `QUARTER_TURN`. -/
abbrev quarterTurn : Int := 16384

/-- `EIGHTH_TURN`. -/
abbrev eighthTurn : Int := 8192

end Sys2Proof
end

