-- ==== Sys2Proof/Machine/Arith.lean ====
section
/-! DEFINITION. The exact arithmetic of the rules (00_scope.md section 4.1): shifts and divisions in `Z`. -/

namespace Sys2Proof.Machine

/-- `clamp(z, lo, hi) = min(max(z, lo), hi)`. -/
def clamp (z lo hi : Int) : Int :=
  min (max z lo) hi

/-- `asr(z, n)`: `floor(z / 2^n)`. Lean's `/` on `Int` rounds down for a positive divisor. -/
def asr (z : Int) (n : Nat) : Int :=
  z / 2 ^ n

/-- `shl(z, n)`: `z * 2^n`. -/
def shl (z : Int) (n : Nat) : Int :=
  z * 2 ^ n

/-- `tdiv(a, b)`, for `b != 0`: the quotient rounded toward zero, `sgn(a) * sgn(b) * floor(abs(a) / abs(b))`. -/
def tdiv (a b : Int) : Int :=
  a.sign * b.sign * ((a.natAbs / b.natAbs : Nat) : Int)

/-- `fdiv(a, b)`, for `a >= 0` and `b > 0`: `floor(a / b)`. -/
def fdiv (a b : Nat) : Nat :=
  a / b

end Sys2Proof.Machine
end

