-- ==== Sys2Proof/Machine/Operands.lean ====
section
/-! DEFINITION. The operand and result formats (R32, R33): how an operand word is read and how a result word is formed. -/

namespace Sys2Proof.Machine

open Sys2Proof

/-- U32 input: `u32(w)` (R32). -/
def u32 (w : Word) : Nat :=
  w.toNat

/-- S32, Q16 and LOG input: `s32(w)`, two's complement (R32). -/
def s32 (w : Word) : Int :=
  w.toInt

/-- ANG input: `w[15:0]`; bits 31:16 are ignored (R32). -/
def ang (w : Word) : Nat :=
  (w.extractLsb' 0 16).toNat

/-- Any output: `word(z)`, the word whose bits are `z mod 2^32` (00_scope.md section 4.1; R32). -/
def word (z : Int) : Word :=
  BitVec.ofInt 32 z

/-- VEC3 input: three Q16 scalars (R33). -/
def vec3In (v : Vec3 Word) : Vec3 Int :=
  ⟨s32 v.x, s32 v.y, s32 v.z⟩

/-- QUAT input: four Q16 scalars (R33). -/
def quatIn (q : Quat Word) : Quat Int :=
  ⟨s32 q.w, s32 q.x, s32 q.y, s32 q.z⟩

/-- MAT3 input: nine Q16 scalars (R33). -/
def mat3In (m : Mat3 Word) : Mat3 Int :=
  ⟨vec3In m.r0, vec3In m.r1, vec3In m.r2⟩

/-- LOG32 input (R72 (a)): `none` for a sign word other than -1, 0, 1 (R34 (d)); the log word is taken as it is. -/
def log32In (a : Log32 Word) : Option (Log32 Int) :=
  if a.legal then some ⟨s32 a.sign, s32 a.log⟩ else none

/-- A scalar result: one word. -/
def scalarOut (z : Int) : Packet :=
  [word z]

/-- A VEC3 result: `x`, `y`, `z` (R33). -/
def vec3Out (v : Vec3 Int) : Packet :=
  [word v.x, word v.y, word v.z]

/-- A QUAT result: `w`, `x`, `y`, `z` (R33). -/
def quatOut (q : Quat Int) : Packet :=
  [word q.w, word q.x, word q.y, word q.z]

/-- A MAT3 result: nine words, row-major (R33). -/
def mat3Out (m : Mat3 Int) : Packet :=
  vec3Out m.r0 ++ vec3Out m.r1 ++ vec3Out m.r2

/-- A LOG32 result: `sign` then `log` (R33). -/
def log32Out (a : Log32 Int) : Packet :=
  [word a.sign, word a.log]

end Sys2Proof.Machine
end

