-- ==== Sys2Proof/Machine/Validity.lean ====
section
/-! DEFINITION. When a configuration is valid (R9): legal parameters (R4 to R7), table lengths (R6) and the range clause
of each table (R16 to R23). The monotonicity and accuracy clauses are no part of it (R9, R17). -/

namespace Sys2Proof

/-- The entry lies in `lo .. hi`, two bounds that are not negative. -/
def entryIn (lo hi : Nat) : Int → Bool
  | .ofNat n => Nat.ble lo n && Nat.ble n hi
  | .negSucc _ => false

/-- Every entry lies in `lo .. hi`. -/
def entriesIn (lo hi : Nat) (t : List Int) : Bool :=
  t.all (entryIn lo hi)

/-- Every entry lies in `-bound .. bound`. -/
def entriesWithin (bound : Nat) (t : List Int) : Bool :=
  t.all fun e => Nat.ble e.natAbs bound

/-- A parameter lies in `lo .. hi`. -/
def inRange (lo hi n : Nat) : Bool :=
  Nat.ble lo n && Nat.ble n hi

/-- R4, R5, R6: the parameters have legal values; `LOG_INTERP` has one by its type (R7). -/
def Config.paramsLegal (c : Config) : Bool :=
  inRange 8 16 c.lq && (inRange 8 16 c.eq && (inRange 2 16 c.sinBits && (inRange 1 16 c.atanBits && inRange 1 16 c.acosBits)))

/-- `MSB8[1..255]`, fixed by R16: one 0, two 1s, four 2s, up to a hundred and twenty-eight 7s. -/
def msb8Entries : List Int :=
  List.replicate 1 0 ++ List.replicate 2 1 ++ List.replicate 4 2 ++ List.replicate 8 3 ++ List.replicate 16 4 ++
    List.replicate 32 5 ++ List.replicate 64 6 ++ List.replicate 128 7

/-- R16: 256 entries; entries 1 to 255 as R16 fixes them; entry 0 is unspecified. -/
def Config.msb8Legal (c : Config) : Bool :=
  decide (c.msb8.length = 256) && decide (c.msb8.drop 1 = msb8Entries)

/-- R18: 256 entries; entries 128 to 255 in `0 .. 2^(LQ+4) - 1`, entries 0 to 127 unspecified. -/
def Config.log2Legal (c : Config) : Bool :=
  decide (c.log2Rom.length = 256) && entriesIn 0 (2 ^ (c.lq + 4) - 1) (c.log2Rom.drop 128)

/-- R19: 256 entries in `2^EQ .. 2^(EQ+1) - 1`. -/
def Config.exp2Legal (c : Config) : Bool :=
  decide (c.exp2Rom.length = 256) && entriesIn (2 ^ c.eq) (2 ^ (c.eq + 1) - 1) c.exp2Rom

/-- R20: the sine column has `2^SIN_BITS` entries in `-AMP .. AMP`. -/
def Config.sinLegal (c : Config) : Bool :=
  decide (c.sinRom.length = 2 ^ c.sinBits) && entriesWithin 65536 c.sinRom

/-- R20: the cosine column has `2^SIN_BITS` entries in `-AMP .. AMP`. -/
def Config.cosLegal (c : Config) : Bool :=
  decide (c.cosRom.length = 2 ^ c.sinBits) && entriesWithin 65536 c.cosRom

/-- R21: `2^ATAN_BITS` entries in `0 .. 8192`. -/
def Config.atanLegal (c : Config) : Bool :=
  decide (c.atanRom.length = 2 ^ c.atanBits) && entriesIn 0 8192 c.atanRom

/-- R22: `2^ACOS_BITS` entries in `0 .. 16384`. -/
def Config.acosLegal (c : Config) : Bool :=
  decide (c.acosRom.length = 2 ^ c.acosBits) && entriesIn 0 16384 c.acosRom

/-- R23: 256 entries in `0 .. 2^LQ`. -/
def Config.lseLegal (c : Config) : Bool :=
  decide (c.lseRom.length = 256) && entriesIn 0 (2 ^ c.lq) c.lseRom

/-- R9: the configuration is valid. A model refuses to run any other (R9, R88, U2). -/
def Config.valid (c : Config) : Bool :=
  c.paramsLegal &&
    (c.msb8Legal &&
      (c.log2Legal && (c.exp2Legal && (c.sinLegal && (c.cosLegal && (c.atanLegal && (c.acosLegal && c.lseLegal)))))))

end Sys2Proof
end

