-- ==== Sys2Proof/Machine/ReferenceTables.lean ====
section
/-! DEFINITION. The reference tables and the reference configuration (R93), with the alternative configuration of
21_reference_tables.md at `LQ = EQ = 16`. `MSB8` is written from R16. -/

namespace Sys2Proof

/-- Entries of a listing that are written without a sign. -/
def plus (l : List Nat) : List Int := l.map Int.ofNat

/-- Entries of a listing that are written with a minus sign (or are 0). -/
def minus (l : List Nat) : List Int := l.map fun n => -Int.ofNat n

/-- `MSB8` of the reference tables: entry 0, which nothing reads, holds 0 (R16, D17). -/
def msb8Reference : List Int := 0 :: msb8Entries

/-- `LOG2_ROM` at `LQ = 8` (R93, R18). -/
def log2Reference : List Int :=
  plus [0, 0, 256, 406, 512, 594, 662, 719, 768, 812, 850, 886, 918, 947, 975, 1000] ++
  plus [1024, 1046, 1068, 1087, 1106, 1124, 1142, 1158, 1174, 1189, 1203, 1217, 1231, 1244, 1256, 1268] ++
  plus [1280, 1291, 1302, 1313, 1324, 1334, 1343, 1353, 1362, 1372, 1380, 1389, 1398, 1406, 1414, 1422] ++
  plus [1430, 1437, 1445, 1452, 1459, 1466, 1473, 1480, 1487, 1493, 1500, 1506, 1512, 1518, 1524, 1530] ++
  plus [1536, 1542, 1547, 1553, 1558, 1564, 1569, 1574, 1580, 1585, 1590, 1595, 1599, 1604, 1609, 1614] ++
  plus [1618, 1623, 1628, 1632, 1636, 1641, 1645, 1649, 1654, 1658, 1662, 1666, 1670, 1674, 1678, 1682] ++
  plus [1686, 1690, 1693, 1697, 1701, 1705, 1708, 1712, 1715, 1719, 1722, 1726, 1729, 1733, 1736, 1739] ++
  plus [1743, 1746, 1749, 1752, 1756, 1759, 1762, 1765, 1768, 1771, 1774, 1777, 1780, 1783, 1786, 1789] ++
  plus [1792, 1795, 1798, 1801, 1803, 1806, 1809, 1812, 1814, 1817, 1820, 1822, 1825, 1828, 1830, 1833] ++
  plus [1836, 1838, 1841, 1843, 1846, 1848, 1851, 1853, 1855, 1858, 1860, 1863, 1865, 1867, 1870, 1872] ++
  plus [1874, 1877, 1879, 1881, 1884, 1886, 1888, 1890, 1892, 1895, 1897, 1899, 1901, 1903, 1905, 1908] ++
  plus [1910, 1912, 1914, 1916, 1918, 1920, 1922, 1924, 1926, 1928, 1930, 1932, 1934, 1936, 1938, 1940] ++
  plus [1942, 1944, 1946, 1947, 1949, 1951, 1953, 1955, 1957, 1959, 1961, 1962, 1964, 1966, 1968, 1970] ++
  plus [1971, 1973, 1975, 1977, 1978, 1980, 1982, 1984, 1985, 1987, 1989, 1990, 1992, 1994, 1995, 1997] ++
  plus [1999, 2000, 2002, 2004, 2005, 2007, 2008, 2010, 2012, 2013, 2015, 2016, 2018, 2020, 2021, 2023] ++
  plus [2024, 2026, 2027, 2029, 2030, 2032, 2033, 2035, 2036, 2038, 2039, 2041, 2042, 2044, 2045, 2047]

/-- `EXP2_ROM` at `EQ = 8` (R93, R19). -/
def exp2Reference : List Int :=
  plus [256, 257, 257, 258, 259, 259, 260, 261, 262, 262, 263, 264, 264, 265, 266, 267] ++
  plus [267, 268, 269, 270, 270, 271, 272, 272, 273, 274, 275, 275, 276, 277, 278, 278] ++
  plus [279, 280, 281, 281, 282, 283, 284, 285, 285, 286, 287, 288, 288, 289, 290, 291] ++
  plus [292, 292, 293, 294, 295, 296, 296, 297, 298, 299, 300, 300, 301, 302, 303, 304] ++
  plus [304, 305, 306, 307, 308, 309, 309, 310, 311, 312, 313, 314, 314, 315, 316, 317] ++
  plus [318, 319, 320, 321, 321, 322, 323, 324, 325, 326, 327, 328, 328, 329, 330, 331] ++
  plus [332, 333, 334, 335, 336, 337, 337, 338, 339, 340, 341, 342, 343, 344, 345, 346] ++
  plus [347, 348, 349, 350, 350, 351, 352, 353, 354, 355, 356, 357, 358, 359, 360, 361] ++
  plus [362, 363, 364, 365, 366, 367, 368, 369, 370, 371, 372, 373, 374, 375, 376, 377] ++
  plus [378, 379, 380, 381, 382, 383, 384, 385, 386, 387, 388, 389, 391, 392, 393, 394] ++
  plus [395, 396, 397, 398, 399, 400, 401, 402, 403, 405, 406, 407, 408, 409, 410, 411] ++
  plus [412, 413, 415, 416, 417, 418, 419, 420, 421, 422, 424, 425, 426, 427, 428, 429] ++
  plus [431, 432, 433, 434, 435, 436, 438, 439, 440, 441, 442, 444, 445, 446, 447, 448] ++
  plus [450, 451, 452, 453, 454, 456, 457, 458, 459, 461, 462, 463, 464, 466, 467, 468] ++
  plus [470, 471, 472, 473, 475, 476, 477, 478, 480, 481, 482, 484, 485, 486, 488, 489] ++
  plus [490, 492, 493, 494, 496, 497, 498, 500, 501, 502, 504, 505, 506, 508, 509, 511]

/-- `SIN_ROM` at `SIN_BITS = 8` (R93, R20). -/
def sinReference : List Int :=
  plus [0, 1608, 3216, 4821, 6424, 8022, 9616, 11204, 12785, 14359, 15924, 17479, 19024, 20557, 22078, 23586] ++
  plus [25080, 26558, 28020, 29466, 30893, 32303, 33692, 35062, 36410, 37736, 39040, 40320, 41576, 42806, 44011, 45190] ++
  plus [46341, 47464, 48559, 49624, 50660, 51665, 52639, 53581, 54491, 55368, 56212, 57022, 57798, 58538, 59244, 59914] ++
  plus [60547, 61145, 61705, 62228, 62714, 63162, 63572, 63944, 64277, 64571, 64827, 65043, 65220, 65358, 65457, 65516] ++
  plus [65536, 65516, 65457, 65358, 65220, 65043, 64827, 64571, 64277, 63944, 63572, 63162, 62714, 62228, 61705, 61145] ++
  plus [60547, 59914, 59244, 58538, 57798, 57022, 56212, 55368, 54491, 53581, 52639, 51665, 50660, 49624, 48559, 47464] ++
  plus [46341, 45190, 44011, 42806, 41576, 40320, 39040, 37736, 36410, 35062, 33692, 32303, 30893, 29466, 28020, 26558] ++
  plus [25080, 23586, 22078, 20557, 19024, 17479, 15924, 14359, 12785, 11204, 9616, 8022, 6424, 4821, 3216, 1608] ++
  minus [0, 1608, 3216, 4821, 6424, 8022, 9616, 11204, 12785, 14359, 15924, 17479, 19024, 20557, 22078, 23586] ++
  minus [25080, 26558, 28020, 29466, 30893, 32303, 33692, 35062, 36410, 37736, 39040, 40320, 41576, 42806, 44011, 45190] ++
  minus [46341, 47464, 48559, 49624, 50660, 51665, 52639, 53581, 54491, 55368, 56212, 57022, 57798, 58538, 59244, 59914] ++
  minus [60547, 61145, 61705, 62228, 62714, 63162, 63572, 63944, 64277, 64571, 64827, 65043, 65220, 65358, 65457, 65516] ++
  minus [65536, 65516, 65457, 65358, 65220, 65043, 64827, 64571, 64277, 63944, 63572, 63162, 62714, 62228, 61705, 61145] ++
  minus [60547, 59914, 59244, 58538, 57798, 57022, 56212, 55368, 54491, 53581, 52639, 51665, 50660, 49624, 48559, 47464] ++
  minus [46341, 45190, 44011, 42806, 41576, 40320, 39040, 37736, 36410, 35062, 33692, 32303, 30893, 29466, 28020, 26558] ++
  minus [25080, 23586, 22078, 20557, 19024, 17479, 15924, 14359, 12785, 11204, 9616, 8022, 6424, 4821, 3216, 1608]

/-- `COS_ROM` at `SIN_BITS = 8` (R93, R20). -/
def cosReference : List Int :=
  plus [65536, 65516, 65457, 65358, 65220, 65043, 64827, 64571, 64277, 63944, 63572, 63162, 62714, 62228, 61705, 61145] ++
  plus [60547, 59914, 59244, 58538, 57798, 57022, 56212, 55368, 54491, 53581, 52639, 51665, 50660, 49624, 48559, 47464] ++
  plus [46341, 45190, 44011, 42806, 41576, 40320, 39040, 37736, 36410, 35062, 33692, 32303, 30893, 29466, 28020, 26558] ++
  plus [25080, 23586, 22078, 20557, 19024, 17479, 15924, 14359, 12785, 11204, 9616, 8022, 6424, 4821, 3216, 1608] ++
  minus [0, 1608, 3216, 4821, 6424, 8022, 9616, 11204, 12785, 14359, 15924, 17479, 19024, 20557, 22078, 23586] ++
  minus [25080, 26558, 28020, 29466, 30893, 32303, 33692, 35062, 36410, 37736, 39040, 40320, 41576, 42806, 44011, 45190] ++
  minus [46341, 47464, 48559, 49624, 50660, 51665, 52639, 53581, 54491, 55368, 56212, 57022, 57798, 58538, 59244, 59914] ++
  minus [60547, 61145, 61705, 62228, 62714, 63162, 63572, 63944, 64277, 64571, 64827, 65043, 65220, 65358, 65457, 65516] ++
  minus [65536, 65516, 65457, 65358, 65220, 65043, 64827, 64571, 64277, 63944, 63572, 63162, 62714, 62228, 61705, 61145] ++
  minus [60547, 59914, 59244, 58538, 57798, 57022, 56212, 55368, 54491, 53581, 52639, 51665, 50660, 49624, 48559, 47464] ++
  minus [46341, 45190, 44011, 42806, 41576, 40320, 39040, 37736, 36410, 35062, 33692, 32303, 30893, 29466, 28020, 26558] ++
  minus [25080, 23586, 22078, 20557, 19024, 17479, 15924, 14359, 12785, 11204, 9616, 8022, 6424, 4821, 3216, 1608] ++
  plus [0, 1608, 3216, 4821, 6424, 8022, 9616, 11204, 12785, 14359, 15924, 17479, 19024, 20557, 22078, 23586] ++
  plus [25080, 26558, 28020, 29466, 30893, 32303, 33692, 35062, 36410, 37736, 39040, 40320, 41576, 42806, 44011, 45190] ++
  plus [46341, 47464, 48559, 49624, 50660, 51665, 52639, 53581, 54491, 55368, 56212, 57022, 57798, 58538, 59244, 59914] ++
  plus [60547, 61145, 61705, 62228, 62714, 63162, 63572, 63944, 64277, 64571, 64827, 65043, 65220, 65358, 65457, 65516]

/-- `ATAN_ROM` at `ATAN_BITS = 8` (R93, R21). -/
def atanReference : List Int :=
  plus [0, 41, 81, 122, 163, 204, 244, 285, 326, 367, 407, 448, 489, 529, 570, 610] ++
  plus [651, 692, 732, 773, 813, 854, 894, 935, 975, 1015, 1056, 1096, 1136, 1177, 1217, 1257] ++
  plus [1297, 1337, 1377, 1417, 1457, 1497, 1537, 1577, 1617, 1656, 1696, 1736, 1775, 1815, 1854, 1894] ++
  plus [1933, 1973, 2012, 2051, 2090, 2129, 2168, 2207, 2246, 2285, 2324, 2363, 2401, 2440, 2478, 2517] ++
  plus [2555, 2594, 2632, 2670, 2708, 2746, 2784, 2822, 2860, 2897, 2935, 2973, 3010, 3047, 3085, 3122] ++
  plus [3159, 3196, 3233, 3270, 3307, 3344, 3380, 3417, 3453, 3490, 3526, 3562, 3599, 3635, 3670, 3706] ++
  plus [3742, 3778, 3813, 3849, 3884, 3920, 3955, 3990, 4025, 4060, 4095, 4129, 4164, 4199, 4233, 4267] ++
  plus [4302, 4336, 4370, 4404, 4438, 4471, 4505, 4539, 4572, 4605, 4639, 4672, 4705, 4738, 4771, 4803] ++
  plus [4836, 4869, 4901, 4933, 4966, 4998, 5030, 5062, 5094, 5125, 5157, 5188, 5220, 5251, 5282, 5313] ++
  plus [5344, 5375, 5406, 5437, 5467, 5498, 5528, 5559, 5589, 5619, 5649, 5679, 5708, 5738, 5768, 5797] ++
  plus [5826, 5856, 5885, 5914, 5943, 5972, 6000, 6029, 6058, 6086, 6114, 6142, 6171, 6199, 6227, 6254] ++
  plus [6282, 6310, 6337, 6365, 6392, 6419, 6446, 6473, 6500, 6527, 6554, 6580, 6607, 6633, 6660, 6686] ++
  plus [6712, 6738, 6764, 6790, 6815, 6841, 6867, 6892, 6917, 6943, 6968, 6993, 7018, 7043, 7068, 7092] ++
  plus [7117, 7141, 7166, 7190, 7214, 7238, 7262, 7286, 7310, 7334, 7358, 7381, 7405, 7428, 7451, 7475] ++
  plus [7498, 7521, 7544, 7566, 7589, 7612, 7635, 7657, 7679, 7702, 7724, 7746, 7768, 7790, 7812, 7834] ++
  plus [7856, 7877, 7899, 7920, 7942, 7963, 7984, 8005, 8026, 8047, 8068, 8089, 8110, 8131, 8151, 8172]

/-- `ACOS_ROM` at `ACOS_BITS = 8` (R93, R22). -/
def acosReference : List Int :=
  plus [16384, 16343, 16303, 16262, 16221, 16180, 16140, 16099, 16058, 16017, 15976, 15936, 15895, 15854, 15813, 15772] ++
  plus [15732, 15691, 15650, 15609, 15568, 15527, 15487, 15446, 15405, 15364, 15323, 15282, 15241, 15200, 15159, 15118] ++
  plus [15077, 15036, 14995, 14953, 14912, 14871, 14830, 14789, 14748, 14706, 14665, 14624, 14582, 14541, 14500, 14458] ++
  plus [14417, 14375, 14334, 14292, 14250, 14209, 14167, 14125, 14084, 14042, 14000, 13958, 13916, 13874, 13833, 13791] ++
  plus [13748, 13706, 13664, 13622, 13580, 13537, 13495, 13453, 13410, 13368, 13325, 13283, 13240, 13197, 13155, 13112] ++
  plus [13069, 13026, 12983, 12940, 12897, 12854, 12811, 12767, 12724, 12680, 12637, 12593, 12550, 12506, 12462, 12419] ++
  plus [12375, 12331, 12287, 12242, 12198, 12154, 12109, 12065, 12020, 11976, 11931, 11886, 11841, 11796, 11751, 11706] ++
  plus [11661, 11616, 11570, 11525, 11479, 11433, 11387, 11341, 11295, 11249, 11203, 11156, 11110, 11063, 11017, 10970] ++
  plus [10923, 10876, 10828, 10781, 10733, 10686, 10638, 10590, 10542, 10494, 10446, 10397, 10349, 10300, 10251, 10202] ++
  plus [10153, 10103, 10054, 10004, 9954, 9904, 9854, 9804, 9753, 9703, 9652, 9601, 9549, 9498, 9446, 9394] ++
  plus [9342, 9290, 9237, 9185, 9132, 9078, 9025, 8971, 8918, 8863, 8809, 8754, 8700, 8644, 8589, 8533] ++
  plus [8477, 8421, 8365, 8308, 8251, 8193, 8135, 8077, 8019, 7960, 7901, 7841, 7782, 7721, 7661, 7600] ++
  plus [7538, 7477, 7414, 7352, 7289, 7225, 7161, 7096, 7031, 6966, 6900, 6833, 6766, 6698, 6630, 6561] ++
  plus [6492, 6421, 6350, 6279, 6207, 6133, 6060, 5985, 5909, 5833, 5756, 5678, 5599, 5518, 5437, 5355] ++
  plus [5271, 5186, 5100, 5013, 4924, 4834, 4742, 4648, 4553, 4455, 4356, 4254, 4150, 4044, 3935, 3823] ++
  plus [3707, 3588, 3465, 3338, 3206, 3069, 2925, 2774, 2614, 2445, 2263, 2065, 1846, 1598, 1305, 922]

/-- `LSE_ROM` at `LQ = 8` (R93, R23). -/
def lseReference : List Int :=
  plus [256, 252, 248, 244, 240, 237, 233, 229, 225, 222, 218, 215, 211, 208, 204, 201] ++
  plus [198, 194, 191, 188, 185, 181, 178, 175, 172, 169, 166, 164, 161, 158, 155, 152] ++
  plus [150, 147, 144, 142, 139, 137, 134, 132, 130, 127, 125, 123, 120, 118, 116, 114] ++
  plus [112, 110, 108, 106, 104, 102, 100, 98, 96, 94, 93, 91, 89, 87, 86, 84] ++
  plus [82, 81, 79, 78, 76, 75, 73, 72, 70, 69, 68, 66, 65, 64, 63, 61] ++
  plus [60, 59, 58, 57, 55, 54, 53, 52, 51, 50, 49, 48, 47, 46, 45, 44] ++
  plus [44, 43, 42, 41, 40, 39, 38, 38, 37, 36, 35, 35, 34, 33, 33, 32] ++
  plus [31, 31, 30, 29, 29, 28, 28, 27, 26, 26, 25, 25, 24, 24, 23, 23] ++
  plus [22, 22, 21, 21, 21, 20, 20, 19, 19, 19, 18, 18, 17, 17, 17, 16] ++
  plus [16, 16, 15, 15, 15, 14, 14, 14, 13, 13, 13, 13, 12, 12, 12, 12] ++
  plus [11, 11, 11, 11, 10, 10, 10, 10, 10, 9, 9, 9, 9, 9, 8, 8] ++
  plus [8, 8, 8, 8, 7, 7, 7, 7, 7, 7, 7, 6, 6, 6, 6, 6] ++
  plus [6, 6, 5, 5, 5, 5, 5, 5, 5, 5, 5, 5, 4, 4, 4, 4] ++
  plus [4, 4, 4, 4, 4, 4, 4, 3, 3, 3, 3, 3, 3, 3, 3, 3] ++
  plus [3, 3, 3, 3, 3, 3, 3, 2, 2, 2, 2, 2, 2, 2, 2, 2] ++
  plus [2, 2, 2, 2, 2, 2, 2, 2, 2, 2, 2, 2, 2, 2, 2, 1]

/-- The reference configuration (R93). -/
def Config.reference : Config :=
  { lq := 8, eq := 8, sinBits := 8, atanBits := 8, acosBits := 8, logInterp := false, msb8 := msb8Reference,
    log2Rom := log2Reference, exp2Rom := exp2Reference, sinRom := sinReference, cosRom := cosReference,
    atanRom := atanReference, acosRom := acosReference, lseRom := lseReference }

/-- `LOG2_ROM` at `LQ = 16`, entries 128 to 255 (21_reference_tables.md, alternative). -/
def log2Wide : List Int :=
  plus [458752, 459488, 460218, 460942, 461661, 462375, 463083, 463786, 464484, 465177, 465864, 466547, 467225, 467898, 468566, 469229] ++
  plus [469888, 470543, 471192, 471838, 472479, 473115, 473748, 474376, 475000, 475620, 476236, 476848, 477456, 478060, 478661, 479257] ++
  plus [479850, 480439, 481024, 481606, 482185, 482759, 483331, 483898, 484463, 485024, 485582, 486136, 486688, 487236, 487781, 488323] ++
  plus [488861, 489397, 489930, 490459, 490986, 491510, 492031, 492549, 493064, 493577, 494086, 494593, 495098, 495599, 496098, 496594] ++
  plus [497088, 497579, 498068, 498554, 499038, 499519, 499998, 500474, 500948, 501419, 501889, 502355, 502820, 503282, 503742, 504200] ++
  plus [504656, 505109, 505561, 506010, 506457, 506902, 507345, 507786, 508224, 508661, 509096, 509528, 509959, 510388, 510815, 511240] ++
  plus [511663, 512084, 512503, 512921, 513336, 513750, 514162, 514572, 514981, 515387, 515792, 516195, 516597, 516997, 517395, 517791] ++
  plus [518186, 518579, 518971, 519361, 519749, 520136, 520521, 520904, 521286, 521667, 522046, 522423, 522799, 523173, 523546, 523918]

/-- `EXP2_ROM` at `EQ = 16` (21_reference_tables.md, alternative). -/
def exp2Wide : List Int :=
  plus [65536, 65714, 65892, 66071, 66250, 66429, 66609, 66790, 66971, 67153, 67335, 67517, 67700, 67884, 68068, 68252] ++
  plus [68438, 68623, 68809, 68996, 69183, 69370, 69558, 69747, 69936, 70126, 70316, 70507, 70698, 70889, 71082, 71274] ++
  plus [71468, 71661, 71856, 72050, 72246, 72442, 72638, 72835, 73032, 73230, 73429, 73628, 73828, 74028, 74229, 74430] ++
  plus [74632, 74834, 75037, 75240, 75444, 75649, 75854, 76060, 76266, 76473, 76680, 76888, 77096, 77305, 77515, 77725] ++
  plus [77936, 78147, 78359, 78572, 78785, 78998, 79212, 79427, 79642, 79858, 80075, 80292, 80510, 80728, 80947, 81166] ++
  plus [81386, 81607, 81828, 82050, 82273, 82496, 82719, 82944, 83169, 83394, 83620, 83847, 84074, 84302, 84531, 84760] ++
  plus [84990, 85220, 85451, 85683, 85915, 86148, 86382, 86616, 86851, 87086, 87322, 87559, 87796, 88034, 88273, 88513] ++
  plus [88752, 88993, 89234, 89476, 89719, 89962, 90206, 90451, 90696, 90942, 91188, 91436, 91684, 91932, 92181, 92431] ++
  plus [92682, 92933, 93185, 93438, 93691, 93945, 94200, 94455, 94711, 94968, 95226, 95484, 95743, 96002, 96263, 96524] ++
  plus [96785, 97048, 97311, 97575, 97839, 98104, 98370, 98637, 98905, 99173, 99442, 99711, 99982, 100253, 100524, 100797] ++
  plus [101070, 101344, 101619, 101895, 102171, 102448, 102726, 103004, 103283, 103564, 103844, 104126, 104408, 104691, 104975, 105260] ++
  plus [105545, 105831, 106118, 106406, 106694, 106984, 107274, 107565, 107856, 108149, 108442, 108736, 109031, 109326, 109623, 109920] ++
  plus [110218, 110517, 110816, 111117, 111418, 111720, 112023, 112327, 112631, 112937, 113243, 113550, 113858, 114167, 114476, 114787] ++
  plus [115098, 115410, 115723, 116036, 116351, 116667, 116983, 117300, 117618, 117937, 118257, 118577, 118899, 119221, 119544, 119869] ++
  plus [120194, 120519, 120846, 121174, 121502, 121832, 122162, 122493, 122825, 123158, 123492, 123827, 124163, 124500, 124837, 125176] ++
  plus [125515, 125855, 126197, 126539, 126882, 127226, 127571, 127917, 128263, 128611, 128960, 129310, 129660, 130012, 130364, 130718]

/-- `LSE_ROM` at `LQ = 16` (21_reference_tables.md, alternative). -/
def lseWide : List Int :=
  plus [65536, 64518, 63510, 62514, 61529, 60555, 59591, 58639, 57698, 56768, 55849, 54941, 54044, 53158, 52283, 51418] ++
  plus [50565, 49722, 48889, 48068, 47257, 46457, 45667, 44888, 44119, 43360, 42612, 41874, 41146, 40429, 39721, 39024] ++
  plus [38336, 37658, 36990, 36332, 35684, 35044, 34415, 33795, 33184, 32582, 31990, 31407, 30832, 30267, 29710, 29162] ++
  plus [28623, 28092, 27570, 27056, 26551, 26053, 25564, 25083, 24610, 24144, 23687, 23237, 22794, 22359, 21931, 21511] ++
  plus [21098, 20692, 20293, 19901, 19515, 19137, 18765, 18399, 18040, 17688, 17341, 17001, 16667, 16339, 16017, 15701] ++
  plus [15391, 15086, 14786, 14493, 14204, 13921, 13643, 13371, 13103, 12841, 12583, 12330, 12082, 11839, 11600, 11366] ++
  plus [11136, 10911, 10690, 10473, 10260, 10052, 9847, 9647, 9450, 9257, 9068, 8882, 8700, 8522, 8347, 8176] ++
  plus [8008, 7843, 7682, 7524, 7369, 7217, 7068, 6922, 6778, 6638, 6501, 6366, 6234, 6105, 5978, 5854] ++
  plus [5732, 5613, 5496, 5381, 5269, 5159, 5052, 4946, 4843, 4742, 4643, 4545, 4450, 4357, 4266, 4176] ++
  plus [4089, 4003, 3919, 3837, 3756, 3677, 3600, 3524, 3450, 3377, 3306, 3237, 3168, 3102, 3036, 2972] ++
  plus [2909, 2848, 2788, 2729, 2671, 2615, 2560, 2505, 2452, 2401, 2350, 2300, 2251, 2204, 2157, 2111] ++
  plus [2066, 2023, 1980, 1938, 1897, 1856, 1817, 1778, 1741, 1704, 1668, 1632, 1597, 1564, 1530, 1498] ++
  plus [1466, 1435, 1404, 1374, 1345, 1316, 1288, 1261, 1234, 1208, 1182, 1157, 1132, 1108, 1085, 1062] ++
  plus [1039, 1017, 995, 974, 953, 933, 913, 893, 874, 856, 837, 820, 802, 785, 768, 752] ++
  plus [736, 720, 705, 690, 675, 661, 646, 633, 619, 606, 593, 580, 568, 556, 544, 532] ++
  plus [521, 510, 499, 488, 478, 468, 458, 448, 438, 429, 420, 411, 402, 393, 385, 377]

/-- The alternative configuration of 21_reference_tables.md: `LQ = EQ = 16`, the rest as in the reference. Entries 0 to
127 of `LOG2_ROM`, which nothing reads (R18), are 0 here (log entry 2). -/
def Config.wide : Config :=
  { Config.reference with
    lq := 16, eq := 16, log2Rom := List.replicate 128 0 ++ log2Wide, exp2Rom := exp2Wide, lseRom := lseWide }

/-- The reference configuration with `LOG_INTERP = 1` (R7; 95_test_vectors.md section 3). -/
def Config.interpolating : Config :=
  { Config.reference with logInterp := true }

end Sys2Proof
end

