-- ==== Sys2Proof/Machine/State.lean ====
section
/-! DEFINITION. The state of the model, the reasons a step can stop, and the state after reset. -/

namespace Sys2Proof.Machine

open Sys2Proof

/-- What the host does to the unit in one step (10_state.md section 1; R29, R87). -/
inductive HostEvent where
  /-- The host presents a request packet (R29); the unit answers it in the same step (R28, D2). -/
  | request (p : Packet)
  /-- The host asserts the reset input (R87). `cut` holds the words of the request in progress or partly received, if
  any: they are discarded and no response is produced for them (log entry 5). -/
  | reset (cut : Packet)
  deriving DecidableEq, Repr

/-- The state. The unit itself has no mutable state (R10 to R13, R15): `config` is what it stores, and no step writes
it (R14, R90). `inputs` and `responses` are the host's (R11; 10_state.md section 1; log entry 3). -/
structure State where
  /-- The static parameters and the eight lookup tables (R4 to R8, R14). -/
  config : Config
  /-- What the host is going to do, first event first; the head request is the request pending (R11, R87). -/
  inputs : List HostEvent
  /-- The responses the host has received, oldest first (R30). -/
  responses : List Packet
  deriving DecidableEq, Repr

/-- Why the machine would stop with a fault. There is no constructor: "No behaviour of this unit is treated as `fault`
or `stuck`" (93_implementation_defined.md; R79, R83). Safe. -/
inductive Fault where
  deriving DecidableEq, Repr

/-- Why the model gives no meaning. -/
inductive Refusal where
  /-- Raised by an arm of `exec` for an instruction without a meaning yet; no arm does so. Safe. -/
  | notModelled (mnemonic : String)
  /-- Raised for an illegal request: "an illegal request has no defined response", a model refuses it (R34, U1). Safe:
  the spec gives such a request no effect at all. -/
  | illegalRequest (why : Illegal)
  /-- Raised by every step and every meaning on an invalid configuration: "A model must refuse to run an invalid
  configuration" (R9, R88, U2). Safe: no rule of the spec applies there. -/
  | invalidConfiguration
  deriving DecidableEq, Repr

/-- The state after reset of a unit built with configuration `c`: "tables as configured, no request pending" (R87). -/
def State.initial (c : Config) : State :=
  { config := c, inputs := [], responses := [] }

/-- The machine right after reset, for a unit built with the reference configuration (R87, R93; the choice of that
configuration is log entry 2). -/
def State.reset : State :=
  State.initial Config.reference

end Sys2Proof.Machine
end

