-- ==== Sys2Proof/Machine/Ops.lean ====
section
/-! DEFINITION. The operations on the state: reading a table (R25), answering a request (R30), reading ring operands
(R34 (d)), the reset input (R87). The unit takes no exception and returns from none (R79, R83, R84), so no such
operation stands here. It writes no memory (R26). -/

namespace Sys2Proof.Machine

open Sys2Proof

/-- `TableRead(T, i)`: entry `i` of the table (R25). Every index of the rules is inside its table (R24); outside it this
reads 0, which no meaning reaches on a valid configuration (log entry 9, DESIGN CHOICE, safe). -/
def tableRead (t : List Int) (i : Nat) : Int :=
  t.getD i 0

/-- The host receives a response; nothing else changes (R1, R10, R30). -/
def State.answer (s : State) (r : Packet) : State :=
  { s with responses := s.responses ++ [r] }

/-- One legal transaction: on a valid configuration the response is a function of the configuration and the operands
(R1); an invalid configuration is refused (R9, R88). -/
def State.respond (s : State) (f : Config → Packet) : Host.Outcome State Fault Refusal :=
  if s.config.valid then .next (s.answer (f s.config)) else .refused .invalidConfiguration

/-- A transaction with one LOG32 operand: a sign word other than -1, 0, 1 makes it illegal (R34 (d), log entry 11). -/
def State.respondRing (s : State) (a : Log32 Word) (f : Config → Log32 Int → Packet) :
    Host.Outcome State Fault Refusal :=
  match log32In a with
  | some x => s.respond fun c => f c x
  | none => .refused (.illegalRequest .ringSign)

/-- A transaction with two LOG32 operands (R34 (d), log entry 11). -/
def State.respondRing2 (s : State) (a b : Log32 Word) (f : Config → Log32 Int → Log32 Int → Packet) :
    Host.Outcome State Fault Refusal :=
  match log32In a, log32In b with
  | some x, some y => s.respond fun c => f c x y
  | _, _ => .refused (.illegalRequest .ringSign)

/-- The reset input (R87): every table is left unchanged, the request in progress is discarded without a response, the
unit is idle. With no mutable state in the unit nothing else can change (R15). -/
def State.resetInput (s : State) (_cut : Packet) : State :=
  s

end Sys2Proof.Machine
end

