-- ==== Sys2Proof/Machine/BitScan.lean ====
section
/-! DEFINITION. Layer 1, the Bit-Scan Core (40_bitscan.md). -/

namespace Sys2Proof.Machine

open Sys2Proof

/-- `bitscan(v)` (R35), for `v` in `0 .. 2^32 - 1`: the byte scan, from the most significant byte down. -/
def bitscan (c : Config) (v : Nat) : Int :=
  let b3 := v / 2 ^ 24 % 256
  let b2 := v / 2 ^ 16 % 256
  let b1 := v / 2 ^ 8 % 256
  let b0 := v % 256
  if b3 ≠ 0 then 24 + tableRead c.msb8 b3
  else if b2 ≠ 0 then 16 + tableRead c.msb8 b2
  else if b1 ≠ 0 then 8 + tableRead c.msb8 b1
  else if b0 ≠ 0 then 0 + tableRead c.msb8 b0
  else -1

/-- BITSCAN (R35). -/
def execBitscan (v : Word) (s : State) : Host.Outcome State Fault Refusal :=
  s.respond fun c => scalarOut (bitscan c (u32 v))

end Sys2Proof.Machine
end

