-- ==== Sys2Proof/Machine/Flags.lean ====
section
/-! DEFINITION. The unit has no flags, no condition codes and no status word (R12), so no flag is computed anywhere. What
a host sees in their place is the result value itself, "a saturation value or a sentinel" (R12, R80): this file holds
the narrowing functions that give the saturation values (00_scope.md section 4.1; D31). -/

namespace Sys2Proof.Machine

open Sys2Proof

/-- `sat32`: signed saturation to a word, used by every Q16 and S32 result (D31). -/
def sat32 (z : Int) : Int :=
  clamp z int32Min int32Max

/-- `satu32`: unsigned saturation to a word. -/
def satu32 (z : Int) : Int :=
  clamp z 0 u32Max

/-- `satlog`: saturation of a logarithm that keeps it distinct from `LOG_ZERO` (R72 (b)). -/
def satlog (z : Int) : Int :=
  clamp z (int32Min + 1) int32Max

/-- `signed_result` (R48, R71): a magnitude with its sign put back, saturated. -/
def signedResult (neg : Bool) (mag : Int) : Int :=
  if neg then sat32 (-mag) else sat32 mag

end Sys2Proof.Machine
end

