-- ==== Sys2Proof/Machine/LogDomain.lean ====
section
/-! DEFINITION. Layer 2, the Log-Domain Kernel (41_logdomain.md): `log2_fixed`, `exp2z` and the five operations. -/

namespace Sys2Proof.Machine

open Sys2Proof

/-- The mantissa `m` of R36, `128 <= m <= 255`, for `v != 0` with leading bit `e`: shifted down or up. -/
def mantissa (e : Int) (v : Nat) : Nat :=
  if 7 ≤ e then v / 2 ^ (e - 7).toNat else v * 2 ^ (7 - e).toNat

/-- The general case of `log2_fixed` with `LOG_INTERP = 0` (R36): exponent plus table entry. -/
def log2Plain (c : Config) (v : Nat) : Int :=
  let e := bitscan c v
  (e - 7) * 2 ^ c.lq + tableRead c.log2Rom (mantissa e v)

/-- The entry of the next mantissa (R37); after 255 comes 256, one octave above entry 128. -/
def log2Next (c : Config) (m : Nat) : Int :=
  if m = 255 then tableRead c.log2Rom 128 + 2 ^ c.lq else tableRead c.log2Rom (m + 1)

/-- The general case of `log2_fixed` with `LOG_INTERP = 1` (R37): the dropped bits place the result on the line between
two entries. -/
def log2Interp (c : Config) (v : Nat) : Int :=
  let e := bitscan c v
  if e ≤ 7 then (e - 7) * 2 ^ c.lq + tableRead c.log2Rom (mantissa e v)
  else
    let nb := (e - 7).toNat
    let m := v / 2 ^ nb
    let r := v % 2 ^ nb
    let t0 := tableRead c.log2Rom m
    let t1 := log2Next c m
    (e - 7) * 2 ^ c.lq + t0 + asr ((t1 - t0) * (r : Int)) nb

/-- `log2_fixed(v)` (R36, R37), for `v` in `0 .. 2^32 - 1`. -/
def log2Fixed (c : Config) (v : Nat) : Int :=
  if v = 0 then logZero
  else if c.logInterp then log2Interp c v
  else log2Plain c v

/-- The entry of the next index (R39); after 255 comes `2^1`, twice entry 0. -/
def exp2Next (c : Config) (idx : Nat) : Int :=
  if idx = 255 then 2 * tableRead c.exp2Rom 0 else tableRead c.exp2Rom (idx + 1)

/-- The scaled power `t` of a fraction `f`, `0 <= f < 2^LQ`: the entry of its top 8 bits (R38), or the point between two
entries when `LOG_INTERP = 1` and there are bits left (R39). -/
def exp2Fraction (c : Config) (f : Nat) : Int :=
  let sh := c.lq - 8
  let idx := f / 2 ^ sh
  let t0 := tableRead c.exp2Rom idx
  if c.logInterp && decide (sh ≠ 0) then
    let g := f % 2 ^ sh
    t0 + asr ((exp2Next c idx - t0) * (g : Int)) sh
  else t0

/-- The net shift of `exp2z` by `sh` and its saturation (R38, R39): `t * 2^sh` or `floor(t / 2^(-sh))`, at most `U32_MAX`.
A shift beyond the word is clamped to 32 positions, as R38 says hardware does: `t` is positive and below `2^32`, so the
result is `U32_MAX` or 0 either way (log entry 8, DEDUCED, safe). -/
def shiftClamped (t sh : Int) : Int :=
  let r := if 0 ≤ sh then t * 2 ^ (min sh.toNat 32) else t / 2 ^ (min (-sh).toNat 32)
  min r u32Max

/-- `exp2z(y)` (R38, R39), for any integer `y`. -/
def exp2z (c : Config) (y : Int) : Int :=
  let i := asr y c.lq
  let f := (y - i * 2 ^ c.lq).toNat
  shiftClamped (exp2Fraction c f) (i - c.eq)

/-- `mul_approx(a, b)` (R42). -/
def mulApprox (c : Config) (a b : Nat) : Int :=
  if a = 0 ∨ b = 0 then 0 else exp2z c (log2Fixed c a + log2Fixed c b)

/-- `div_approx(n, d)` (R43): the divisor is tested first (D30). -/
def divApprox (c : Config) (n d : Nat) : Int :=
  if d = 0 then u32Max
  else if n = 0 then 0
  else exp2z c (log2Fixed c n - log2Fixed c d)

/-- `pow_approx(a, k)` (R44), `k` a Q16.16 exponent (D29). -/
def powApprox (c : Config) (a : Nat) (k : Int) : Int :=
  if a = 0 then 0 else exp2z c (asr (log2Fixed c a * k) 16)

/-- LOG2 (R40). -/
def execLog2 (v : Word) (s : State) : Host.Outcome State Fault Refusal :=
  s.respond fun c => scalarOut (log2Fixed c (u32 v))

/-- EXP2 (R41). -/
def execExp2 (y : Word) (s : State) : Host.Outcome State Fault Refusal :=
  s.respond fun c => scalarOut (exp2z c (s32 y))

/-- MUL_APPROX (R42). -/
def execMulApprox (a b : Word) (s : State) : Host.Outcome State Fault Refusal :=
  s.respond fun c => scalarOut (mulApprox c (u32 a) (u32 b))

/-- DIV_APPROX (R43). -/
def execDivApprox (n d : Word) (s : State) : Host.Outcome State Fault Refusal :=
  s.respond fun c => scalarOut (divApprox c (u32 n) (u32 d))

/-- POW_APPROX (R44). -/
def execPowApprox (a k : Word) (s : State) : Host.Outcome State Fault Refusal :=
  s.respond fun c => scalarOut (powApprox c (u32 a) (s32 k))

end Sys2Proof.Machine
end

