-- ==== Sys2Proof/Machine/FixedPoint.lean ====
section
/-! DEFINITION. Layer 3, the Fixed-Point Layer (42_fixedpoint.md). All values are raw Q16.16 integers. -/

namespace Sys2Proof.Machine

open Sys2Proof

/-- `mul_exact(a, b)` (R46); `M(a, b)` of 44_pipeline3d.md. -/
def mulExact (a b : Int) : Int :=
  sat32 (asr (a * b) 16)

/-- What a signed division by zero returns (R47, R49; a zero dividend counts as non-negative, D30). -/
def divByZero (n : Int) : Int :=
  if n < 0 then int32Min else int32Max

/-- `div_exact(n, d)` (R47). -/
def divExact (n d : Int) : Int :=
  if d = 0 then divByZero n else sat32 (tdiv (n * 65536) d)

/-- `qmul_approx(a, b)` (R48). -/
def qmulApprox (c : Config) (a b : Int) : Int :=
  if a = 0 ∨ b = 0 then 0
  else
    let y := log2Fixed c a.natAbs + log2Fixed c b.natAbs - 16 * 2 ^ c.lq
    signedResult (decide (a < 0) ^^ decide (b < 0)) (exp2z c y)

/-- `qdiv_approx(n, d)` (R49): the divisor is tested first. -/
def qdivApprox (c : Config) (n d : Int) : Int :=
  if d = 0 then divByZero n
  else if n = 0 then 0
  else
    let y := log2Fixed c n.natAbs - log2Fixed c d.natAbs + 16 * 2 ^ c.lq
    signedResult (decide (n < 0) ^^ decide (d < 0)) (exp2z c y)

/-- `q_sqrt(x)` (R50). -/
def qSqrt (c : Config) (x : Int) : Int :=
  if x ≤ 0 then 0
  else sat32 (exp2z c (asr (log2Fixed c x.toNat) 1 + 8 * 2 ^ c.lq))

/-- `q_inverse_sqrt(x)` (R51). -/
def qInverseSqrt (c : Config) (x : Int) : Int :=
  if x ≤ 0 then int32Max
  else sat32 (exp2z c (24 * 2 ^ c.lq - asr (log2Fixed c x.toNat) 1))

/-- `lerp(a, b, t)` (R52): the shift applies to the product only (C3). -/
def lerp (a b t : Int) : Int :=
  sat32 (a + asr ((b - a) * t) 16)

/-- MUL_EXACT (R46). -/
def execMulExact (a b : Word) (s : State) : Host.Outcome State Fault Refusal :=
  s.respond fun _ => scalarOut (mulExact (s32 a) (s32 b))

/-- DIV_EXACT (R47). -/
def execDivExact (n d : Word) (s : State) : Host.Outcome State Fault Refusal :=
  s.respond fun _ => scalarOut (divExact (s32 n) (s32 d))

/-- QMUL_APPROX (R48). -/
def execQmulApprox (a b : Word) (s : State) : Host.Outcome State Fault Refusal :=
  s.respond fun c => scalarOut (qmulApprox c (s32 a) (s32 b))

/-- QDIV_APPROX (R49). -/
def execQdivApprox (n d : Word) (s : State) : Host.Outcome State Fault Refusal :=
  s.respond fun c => scalarOut (qdivApprox c (s32 n) (s32 d))

/-- SQRT (R50). -/
def execSqrt (x : Word) (s : State) : Host.Outcome State Fault Refusal :=
  s.respond fun c => scalarOut (qSqrt c (s32 x))

/-- INVERSE_SQRT (R51). -/
def execInverseSqrt (x : Word) (s : State) : Host.Outcome State Fault Refusal :=
  s.respond fun c => scalarOut (qInverseSqrt c (s32 x))

/-- LERP (R52). -/
def execLerp (a b t : Word) (s : State) : Host.Outcome State Fault Refusal :=
  s.respond fun _ => scalarOut (lerp (s32 a) (s32 b) (s32 t))

end Sys2Proof.Machine
end

