-- ==== Sys2Proof/Machine/Trig.lean ====
section
/-! DEFINITION. Layer 4, the Trigonometry Layer (43_trig.md). -/

namespace Sys2Proof.Machine

open Sys2Proof

/-- The index of an angle in `SIN_ROM` and `COS_ROM` (R53): `(angle * 2^SIN_BITS) >> 16`. -/
def turnIndex (c : Config) (angle : Nat) : Nat :=
  angle * 2 ^ c.sinBits / 2 ^ 16

/-- `t_sin(angle)` (R53), `angle` in `0 .. 65535`. -/
def tSin (c : Config) (angle : Nat) : Int :=
  tableRead c.sinRom (turnIndex c angle)

/-- `t_cos(angle)` (R54), `angle` in `0 .. 65535`. -/
def tCos (c : Config) (angle : Nat) : Int :=
  tableRead c.cosRom (turnIndex c angle)

/-- The index of the ratio `lo / hi`, `lo <= hi`, in `ATAN_ROM` (R55), clamped to the last entry. -/
def ratioIndex (c : Config) (lo hi : Nat) : Nat :=
  min (fdiv (lo * 2 ^ c.atanBits) hi) (2 ^ c.atanBits - 1)

/-- `t_atan2(y, x)` (R55): the fold into the first octant, the table and the three reflections, in their order. -/
def tAtan2 (c : Config) (y x : Int) : Int :=
  let ay := y.natAbs
  let ax := x.natAbs
  if ay = 0 ∧ ax = 0 then 0
  else
    let swap := decide (ay > ax)
    let a := tableRead c.atanRom (ratioIndex c (if swap then ax else ay) (if swap then ay else ax))
    let a := if swap then quarterTurn - a else a
    let a := if x < 0 then halfTurn - a else a
    let a := if y < 0 then -a else a
    a % fullTurn

/-- The index of a magnitude `mag`, `0 .. 65536`, in `ACOS_ROM` (R56), clamped to the last entry. -/
def acosIndex (c : Config) (mag : Nat) : Nat :=
  min (mag * 2 ^ c.acosBits / 2 ^ 16) (2 ^ c.acosBits - 1)

/-- `t_acos(x)` (R56). -/
def tAcos (c : Config) (x : Int) : Int :=
  let mag := (clamp x (-one) one).natAbs
  let r := tableRead c.acosRom (acosIndex c mag)
  if x < 0 then halfTurn - r else r

/-- SIN (R53). -/
def execSin (angle : Word) (s : State) : Host.Outcome State Fault Refusal :=
  s.respond fun c => scalarOut (tSin c (ang angle))

/-- COS (R54). -/
def execCos (angle : Word) (s : State) : Host.Outcome State Fault Refusal :=
  s.respond fun c => scalarOut (tCos c (ang angle))

/-- ATAN2 (R55). -/
def execAtan2 (y x : Word) (s : State) : Host.Outcome State Fault Refusal :=
  s.respond fun c => scalarOut (tAtan2 c (s32 y) (s32 x))

/-- ACOS (R56). -/
def execAcos (x : Word) (s : State) : Host.Outcome State Fault Refusal :=
  s.respond fun c => scalarOut (tAcos c (s32 x))

end Sys2Proof.Machine
end

