-- ==== Sys2Proof/Machine/Pipeline3D.lean ====
section
/-! DEFINITION. Layer 5, the 3D Pipeline (44_pipeline3d.md). Every product of two Q16.16 scalars is `mulExact`, narrowed
before it is added; every component is narrowed once (D36). -/

namespace Sys2Proof.Machine

open Sys2Proof

/-- `v3add(a, b)` (R57). -/
def v3add (a b : Vec3 Int) : Vec3 Int :=
  ⟨sat32 (a.x + b.x), sat32 (a.y + b.y), sat32 (a.z + b.z)⟩

/-- `v3sub(a, b)` (R58). -/
def v3sub (a b : Vec3 Int) : Vec3 Int :=
  ⟨sat32 (a.x - b.x), sat32 (a.y - b.y), sat32 (a.z - b.z)⟩

/-- `v3dot(a, b)` (R59): three narrowed products, an exact sum, one `sat32`. -/
def v3dot (a b : Vec3 Int) : Int :=
  sat32 (mulExact a.x b.x + mulExact a.y b.y + mulExact a.z b.z)

/-- `v3cross(a, b)` (R60). -/
def v3cross (a b : Vec3 Int) : Vec3 Int :=
  ⟨sat32 (mulExact a.y b.z - mulExact a.z b.y),
   sat32 (mulExact a.z b.x - mulExact a.x b.z),
   sat32 (mulExact a.x b.y - mulExact a.y b.x)⟩

/-- A vector times a scalar, componentwise by `mul_exact` (R62, R66, R70). -/
def v3scale (v : Vec3 Int) (k : Int) : Vec3 Int :=
  ⟨mulExact v.x k, mulExact v.y k, mulExact v.z k⟩

/-- `v3len(v)` (R61). -/
def v3len (c : Config) (v : Vec3 Int) : Int :=
  qSqrt c (v3dot v v)

/-- `v3norm(v)` (R62). -/
def v3norm (c : Config) (v : Vec3 Int) : Vec3 Int :=
  v3scale v (qInverseSqrt c (v3dot v v))

/-- Column `j` of a matrix, one for each of its three components. -/
def m3cols (b : Mat3 Int) : Mat3 Int :=
  ⟨⟨b.r0.x, b.r1.x, b.r2.x⟩, ⟨b.r0.y, b.r1.y, b.r2.y⟩, ⟨b.r0.z, b.r1.z, b.r2.z⟩⟩

/-- `m3mulv(A, v)` (R64): row `i` of the result is `v3dot` of row `i` of `A` and `v`. -/
def m3mulv (a : Mat3 Int) (v : Vec3 Int) : Vec3 Int :=
  ⟨v3dot a.r0 v, v3dot a.r1 v, v3dot a.r2 v⟩

/-- Row `i` of `m3mul(A, B)` from row `i` of `A`: entry `j` is `v3dot` of that row and column `j` of `B` (R63). -/
def m3rowMul (r : Vec3 Int) (b : Mat3 Int) : Vec3 Int :=
  ⟨v3dot r (m3cols b).r0, v3dot r (m3cols b).r1, v3dot r (m3cols b).r2⟩

/-- `m3mul(A, B)` (R63). -/
def m3mul (a b : Mat3 Int) : Mat3 Int :=
  ⟨m3rowMul a.r0 b, m3rowMul a.r1 b, m3rowMul a.r2 b⟩

/-- `Rx` of R65, from the sine and cosine of the X angle. -/
def rotX (s c : Int) : Mat3 Int :=
  ⟨⟨one, 0, 0⟩, ⟨0, c, -s⟩, ⟨0, s, c⟩⟩

/-- `Ry` of R65. -/
def rotY (s c : Int) : Mat3 Int :=
  ⟨⟨c, 0, s⟩, ⟨0, one, 0⟩, ⟨-s, 0, c⟩⟩

/-- `Rz` of R65. -/
def rotZ (s c : Int) : Mat3 Int :=
  ⟨⟨c, -s, 0⟩, ⟨s, c, 0⟩, ⟨0, 0, one⟩⟩

/-- `m3euler(ax, ay, az)` (R65): `Rz·(Ry·Rx)`, the inner product first (D40). -/
def m3euler (c : Config) (ax ay az : Nat) : Mat3 Int :=
  m3mul (rotZ (tSin c az) (tCos c az)) (m3mul (rotY (tSin c ay) (tCos c ay)) (rotX (tSin c ax) (tCos c ax)))

/-- `quat_axis_angle(axis, angle)` (R66): half angle, the axis taken as it is (D41). -/
def quatAxisAngle (c : Config) (axis : Vec3 Int) (angle : Nat) : Quat Int :=
  let h := angle / 2
  let u := v3scale axis (tSin c h)
  ⟨tCos c h, u.x, u.y, u.z⟩

/-- `quat_rotate(q, v)` (R67): the two-cross-product form. -/
def quatRotate (q : Quat Int) (v : Vec3 Int) : Vec3 Int :=
  let u : Vec3 Int := ⟨q.x, q.y, q.z⟩
  let t := v3cross u v
  let t2 : Vec3 Int := ⟨sat32 (2 * t.x), sat32 (2 * t.y), sat32 (2 * t.z)⟩
  let c2 := v3cross u t2
  ⟨sat32 (v.x + mulExact q.w t2.x + c2.x),
   sat32 (v.y + mulExact q.w t2.y + c2.y),
   sat32 (v.z + mulExact q.w t2.z + c2.z)⟩

/-- `quat_norm(q)` (R68). -/
def quatNorm (c : Config) (q : Quat Int) : Quat Int :=
  let n2 := sat32 (mulExact q.w q.w + mulExact q.x q.x + mulExact q.y q.y + mulExact q.z q.z)
  let k := qInverseSqrt c n2
  ⟨mulExact q.w k, mulExact q.x k, mulExact q.y k, mulExact q.z k⟩

/-- A zero denominator is replaced by the raw integer 1 (R69, R71, D44). -/
def guardZero (d : Int) : Int :=
  if d = 0 then 1 else d

/-- `project(v, focal)` (R69): the denominator is exact, 33 bits; one exact division of the full product. -/
def project (v : Vec3 Int) (focal : Int) : Vec3 Int :=
  let d := guardZero (v.z + focal)
  ⟨sat32 (tdiv (v.x * focal) d), sat32 (tdiv (v.y * focal) d), v.z⟩

/-- `mvp_view` (R70): scale, rotate, translate; both pipelines share it. -/
def mvpView (c : Config) (v : Vec3 Int) (scale : Int) (ax ay az : Nat) (t : Vec3 Int) : Vec3 Int :=
  v3add (m3mulv (m3euler c ax ay az) (v3scale v scale)) t

/-- `pipeline_mvp` (R70). -/
def pipelineMvp (c : Config) (v : Vec3 Int) (scale : Int) (ax ay az : Nat) (t : Vec3 Int) (focal : Int) : Vec3 Int :=
  project (mvpView c v scale ax ay az t) focal

/-- `ratio_approx(x, f, d)` (R71): `x * f / d` in one logarithm sum and one exponential, `d != 0`. -/
def ratioApprox (c : Config) (x f d : Int) : Int :=
  if x = 0 ∨ f = 0 then 0
  else
    let y := log2Fixed c x.natAbs + log2Fixed c f.natAbs - log2Fixed c d.natAbs
    signedResult (decide (x < 0) ^^ decide (f < 0) ^^ decide (d < 0)) (exp2z c y)

/-- `pipeline_mvp_fused` (R71): here the denominator is narrowed to 32 bits. -/
def pipelineMvpFused (c : Config) (v : Vec3 Int) (scale : Int) (ax ay az : Nat) (t : Vec3 Int) (focal : Int) :
    Vec3 Int :=
  let p := mvpView c v scale ax ay az t
  let d := guardZero (sat32 (p.z + focal))
  ⟨ratioApprox c p.x focal d, ratioApprox c p.y focal d, p.z⟩

/-- VEC3_ADD (R57). -/
def execVec3Add (a b : Vec3 Word) (s : State) : Host.Outcome State Fault Refusal :=
  s.respond fun _ => vec3Out (v3add (vec3In a) (vec3In b))

/-- VEC3_SUB (R58). -/
def execVec3Sub (a b : Vec3 Word) (s : State) : Host.Outcome State Fault Refusal :=
  s.respond fun _ => vec3Out (v3sub (vec3In a) (vec3In b))

/-- VEC3_DOT (R59). -/
def execVec3Dot (a b : Vec3 Word) (s : State) : Host.Outcome State Fault Refusal :=
  s.respond fun _ => scalarOut (v3dot (vec3In a) (vec3In b))

/-- VEC3_CROSS (R60). -/
def execVec3Cross (a b : Vec3 Word) (s : State) : Host.Outcome State Fault Refusal :=
  s.respond fun _ => vec3Out (v3cross (vec3In a) (vec3In b))

/-- VEC3_LENGTH (R61). -/
def execVec3Length (v : Vec3 Word) (s : State) : Host.Outcome State Fault Refusal :=
  s.respond fun c => scalarOut (v3len c (vec3In v))

/-- VEC3_NORMALIZE (R62). -/
def execVec3Normalize (v : Vec3 Word) (s : State) : Host.Outcome State Fault Refusal :=
  s.respond fun c => vec3Out (v3norm c (vec3In v))

/-- MAT3_MUL (R63). -/
def execMat3Mul (a b : Mat3 Word) (s : State) : Host.Outcome State Fault Refusal :=
  s.respond fun _ => mat3Out (m3mul (mat3In a) (mat3In b))

/-- MAT3_MUL_VEC3 (R64). -/
def execMat3MulVec3 (a : Mat3 Word) (v : Vec3 Word) (s : State) : Host.Outcome State Fault Refusal :=
  s.respond fun _ => vec3Out (m3mulv (mat3In a) (vec3In v))

/-- MAT3_ROTATION_EULER (R65). -/
def execMat3RotationEuler (ax ay az : Word) (s : State) : Host.Outcome State Fault Refusal :=
  s.respond fun c => mat3Out (m3euler c (ang ax) (ang ay) (ang az))

/-- QUAT_FROM_AXIS_ANGLE (R66). -/
def execQuatFromAxisAngle (axis : Vec3 Word) (angle : Word) (s : State) : Host.Outcome State Fault Refusal :=
  s.respond fun c => quatOut (quatAxisAngle c (vec3In axis) (ang angle))

/-- QUAT_ROTATE_VEC (R67). -/
def execQuatRotateVec (q : Quat Word) (v : Vec3 Word) (s : State) : Host.Outcome State Fault Refusal :=
  s.respond fun _ => vec3Out (quatRotate (quatIn q) (vec3In v))

/-- QUAT_NORMALIZE (R68). -/
def execQuatNormalize (q : Quat Word) (s : State) : Host.Outcome State Fault Refusal :=
  s.respond fun c => quatOut (quatNorm c (quatIn q))

/-- PROJECT_PERSPECTIVE (R69). -/
def execProjectPerspective (v : Vec3 Word) (focal : Word) (s : State) : Host.Outcome State Fault Refusal :=
  s.respond fun _ => vec3Out (project (vec3In v) (s32 focal))

/-- PIPELINE_MVP (R70). -/
def execPipelineMvp (v : Vec3 Word) (scale ax ay az : Word) (t : Vec3 Word) (focal : Word) (s : State) :
    Host.Outcome State Fault Refusal :=
  s.respond fun c =>
    vec3Out (pipelineMvp c (vec3In v) (s32 scale) (ang ax) (ang ay) (ang az) (vec3In t) (s32 focal))

/-- PIPELINE_MVP_FUSED (R71). -/
def execPipelineMvpFused (v : Vec3 Word) (scale ax ay az : Word) (t : Vec3 Word) (focal : Word) (s : State) :
    Host.Outcome State Fault Refusal :=
  s.respond fun c =>
    vec3Out (pipelineMvpFused c (vec3In v) (s32 scale) (ang ax) (ang ay) (ang az) (vec3In t) (s32 focal))

end Sys2Proof.Machine
end

