-- ==== Sys2Proof/Machine/Ring.lean ====
section
/-! DEFINITION. Layer 6, the Ring Algebra (45_ring.md). An element is a sign in -1, 0, 1 and a logarithm; zero is
recognised by its sign alone (R72 (a)). -/

namespace Sys2Proof.Machine

open Sys2Proof

/-- `ZERO32 = (0, INT32_MIN)`, the ring zero every zero result is written as (R72 (b)). -/
def zero32 : Log32 Int :=
  ⟨0, int32Min⟩

/-- `to_log32(v)` (R73). -/
def toLog32 (c : Config) (v : Int) : Log32 Int :=
  if v = 0 then zero32
  else if 0 < v then ⟨1, log2Fixed c v.natAbs⟩
  else ⟨-1, log2Fixed c v.natAbs⟩

/-- `from_log32((s, l))` (R74). -/
def fromLog32 (c : Config) (a : Log32 Int) : Int :=
  if a.sign = 0 then 0
  else if 0 < a.sign then sat32 (exp2z c a.log)
  else sat32 (-exp2z c a.log)

/-- `log32_mul` (R75). -/
def log32Mul (a b : Log32 Int) : Log32 Int :=
  if a.sign = 0 ∨ b.sign = 0 then zero32
  else ⟨a.sign * b.sign, satlog (a.log + b.log)⟩

/-- `log32_div` (R76): the divisor is tested first. -/
def log32Div (a b : Log32 Int) : Log32 Int :=
  if b.sign = 0 then (if a.sign < 0 then ⟨-1, int32Max⟩ else ⟨1, int32Max⟩)
  else if a.sign = 0 then zero32
  else ⟨a.sign * b.sign, satlog (a.log - b.log)⟩

/-- The index of a log-difference in `LSE_ROM` (R77), clamped to 255. -/
def lseIndex (c : Config) (delta : Nat) : Nat :=
  min (delta / 2 ^ (c.lq - 5)) 255

/-- `log32_add` (R77): LogSumExp for like signs, the linear domain for unlike signs. -/
def log32Add (c : Config) (a b : Log32 Int) : Log32 Int :=
  if a.sign = 0 then (if b.sign = 0 then zero32 else b)
  else if b.sign = 0 then a
  else if a.sign = b.sign then
    ⟨a.sign, satlog (max a.log b.log + tableRead c.lseRom (lseIndex c (a.log - b.log).natAbs))⟩
  else toLog32 c (sat32 (fromLog32 c a + fromLog32 c b))

/-- `log32_pow` (R78): the sign of a non-zero result is +1. -/
def log32Pow (a : Log32 Int) (k : Int) : Log32 Int :=
  if a.sign = 0 then zero32 else ⟨1, satlog (asr (a.log * k) 16)⟩

/-- TO_LOG32 (R73). -/
def execToLog32 (v : Word) (s : State) : Host.Outcome State Fault Refusal :=
  s.respond fun c => log32Out (toLog32 c (s32 v))

/-- FROM_LOG32 (R74). -/
def execFromLog32 (a : Log32 Word) (s : State) : Host.Outcome State Fault Refusal :=
  s.respondRing a fun c x => scalarOut (fromLog32 c x)

/-- LOG32_MUL (R75). -/
def execLog32Mul (a b : Log32 Word) (s : State) : Host.Outcome State Fault Refusal :=
  s.respondRing2 a b fun _ x y => log32Out (log32Mul x y)

/-- LOG32_DIV (R76). -/
def execLog32Div (a b : Log32 Word) (s : State) : Host.Outcome State Fault Refusal :=
  s.respondRing2 a b fun _ x y => log32Out (log32Div x y)

/-- LOG32_ADD (R77). -/
def execLog32Add (a b : Log32 Word) (s : State) : Host.Outcome State Fault Refusal :=
  s.respondRing2 a b fun c x y => log32Out (log32Add c x y)

/-- LOG32_POW (R78). -/
def execLog32Pow (a : Log32 Word) (k : Word) (s : State) : Host.Outcome State Fault Refusal :=
  s.respondRing a fun _ x => log32Out (log32Pow x (s32 k))

end Sys2Proof.Machine
end

