-- ==== Sys2Proof/Machine/Dispatch.lean ====
section
/-! DEFINITION. One arm per operation: the meaning of each instruction. -/

namespace Sys2Proof.Machine

open Sys2Proof

/-- The meaning of an instruction: each arm calls the one definition of its operation. -/
def exec (i : Instr) (s : State) : Host.Outcome State Fault Refusal :=
  match i with
  | .bitscan v => Sys2Proof.Machine.execBitscan v s
  | .log2 v => Sys2Proof.Machine.execLog2 v s
  | .exp2 y => Sys2Proof.Machine.execExp2 y s
  | .mulApprox a b => Sys2Proof.Machine.execMulApprox a b s
  | .divApprox n d => Sys2Proof.Machine.execDivApprox n d s
  | .powApprox a k => Sys2Proof.Machine.execPowApprox a k s
  | .mulExact a b => Sys2Proof.Machine.execMulExact a b s
  | .divExact n d => Sys2Proof.Machine.execDivExact n d s
  | .qmulApprox a b => Sys2Proof.Machine.execQmulApprox a b s
  | .qdivApprox n d => Sys2Proof.Machine.execQdivApprox n d s
  | .sqrt x => Sys2Proof.Machine.execSqrt x s
  | .inverseSqrt x => Sys2Proof.Machine.execInverseSqrt x s
  | .lerp a b t => Sys2Proof.Machine.execLerp a b t s
  | .sin angle => Sys2Proof.Machine.execSin angle s
  | .cos angle => Sys2Proof.Machine.execCos angle s
  | .atan2 y x => Sys2Proof.Machine.execAtan2 y x s
  | .acos x => Sys2Proof.Machine.execAcos x s
  | .vec3Add a b => Sys2Proof.Machine.execVec3Add a b s
  | .vec3Sub a b => Sys2Proof.Machine.execVec3Sub a b s
  | .vec3Dot a b => Sys2Proof.Machine.execVec3Dot a b s
  | .vec3Cross a b => Sys2Proof.Machine.execVec3Cross a b s
  | .vec3Length v => Sys2Proof.Machine.execVec3Length v s
  | .vec3Normalize v => Sys2Proof.Machine.execVec3Normalize v s
  | .mat3Mul a b => Sys2Proof.Machine.execMat3Mul a b s
  | .mat3MulVec3 a v => Sys2Proof.Machine.execMat3MulVec3 a v s
  | .mat3RotationEuler ax ay az => Sys2Proof.Machine.execMat3RotationEuler ax ay az s
  | .quatFromAxisAngle axis angle => Sys2Proof.Machine.execQuatFromAxisAngle axis angle s
  | .quatRotateVec q v => Sys2Proof.Machine.execQuatRotateVec q v s
  | .quatNormalize q => Sys2Proof.Machine.execQuatNormalize q s
  | .projectPerspective v focal => Sys2Proof.Machine.execProjectPerspective v focal s
  | .pipelineMvp v scale ax ay az t focal => Sys2Proof.Machine.execPipelineMvp v scale ax ay az t focal s
  | .pipelineMvpFused v scale ax ay az t focal => Sys2Proof.Machine.execPipelineMvpFused v scale ax ay az t focal s
  | .toLog32 v => Sys2Proof.Machine.execToLog32 v s
  | .fromLog32 a => Sys2Proof.Machine.execFromLog32 a s
  | .log32Mul a b => Sys2Proof.Machine.execLog32Mul a b s
  | .log32Div a b => Sys2Proof.Machine.execLog32Div a b s
  | .log32Add a b => Sys2Proof.Machine.execLog32Add a b s
  | .log32Pow a k => Sys2Proof.Machine.execLog32Pow a k s

end Sys2Proof.Machine
end

