-- ==== Sys2Proof/Machine/Transaction.lean ====
section
/-! DEFINITION. One transaction: a request packet is decoded and its operation executed, or it is refused. -/

namespace Sys2Proof.Machine

open Sys2Proof

/-- The unit takes the request `p` as a whole (R29): a legal one is executed, an illegal one refused (R34). -/
def transact (p : Packet) (s : State) : Host.Outcome State Fault Refusal :=
  match decode p with
  | .instr i => exec i s
  | .illegal why => .refused (.illegalRequest why)

/-- One host event (R28, R29, R87), `s` being the state without it. -/
def hostEvent (e : HostEvent) (s : State) : Host.Outcome State Fault Refusal :=
  match e with
  | .request p => transact p s
  | .reset cut => .next (s.resetInput cut)

/-- The host does what stands first in its list (R11, R28 (a)); with nothing there the unit stays idle (log entry 4,
DEDUCED). -/
def runHead (s : State) : Host.Outcome State Fault Refusal :=
  match s.inputs with
  | [] => .next s
  | e :: rest => hostEvent e { s with inputs := rest }

/-- A model refuses to run an invalid configuration (R9, R88). -/
def runValid (s : State) : Host.Outcome State Fault Refusal :=
  if s.config.valid then runHead s else .refused .invalidConfiguration

end Sys2Proof.Machine
end

