-- ==== Sys2Proof/Machine/Step.lean ====
section
/-! DEFINITION. One step of the machine, and how one given request is placed where the step takes its next one. -/

namespace Sys2Proof.Machine

open Sys2Proof

/-- One step: one host event, done atomically (10_state.md section 1; R28), or an idle step. -/
def step (s : State) : Host.Outcome State Fault Refusal :=
  runValid s

/-- `s` with the request of opcode-table bits `w` first in the host's list, so that the next step answers it (log
entry 3). -/
def State.withFetchWord (s : State) (nbits w : Nat) : State :=
  { s with inputs := .request (tablePacket nbits w) :: s.inputs }

end Sys2Proof.Machine
end

