-- ==== Sys2Proof/Safety.lean ====
section
/-! DEFINITION. The terms the claims are made in: legal requests (R34), the monotone table clauses (R18), the
table entries that are specified (R16, R18), requests still waiting, and the invariant of the machine. -/

namespace Sys2Proof

/-- The places of the sign words among the operand words of an operation: word 0 of each LOG32 operand (R31, R33). -/
def Op.signPlaces : Op → List Nat
  | .fromLog32 | .log32Pow => [0]
  | .log32Mul | .log32Div | .log32Add => [0, 2]
  | _ => []

/-- A request with operation `o` breaks none of the four clauses of R34: the header's low byte is the code of `o`, its
other bits are zero, the word count is right, and every sign word is -1, 0 or 1. -/
def LegalFor (o : Op) (p : Packet) : Prop :=
  ∃ h ws, p = h :: ws ∧ h.toNat % 256 = o.code ∧ h.toNat / 256 = 0 ∧ ws.length = o.nopnd ∧
    ∀ k ∈ o.signPlaces, (ws.getD k 0#32).toInt = -1 ∨ (ws.getD k 0#32).toInt = 0 ∨ (ws.getD k 0#32).toInt = 1

/-- A legal request (R34). -/
def LegalRequest (p : Packet) : Prop :=
  ∃ o : Op, LegalFor o p

/-- The monotonicity clauses of `LOG2_ROM` (R18). They are no part of validity (R9). -/
def Config.Log2Monotone (c : Config) : Prop :=
  (∀ m, 128 ≤ m → m < 255 → c.log2Rom.getD m 0 ≤ c.log2Rom.getD (m + 1) 0) ∧
    c.log2Rom.getD 255 0 ≤ c.log2Rom.getD 128 0 + 2 ^ c.lq

/-- Two configurations that differ at most in the entries the spec leaves unspecified: `MSB8[0]` (R16, U3) and
`LOG2_ROM[0..127]` (R18, U4). -/
def Config.SameSpecified (c d : Config) : Prop :=
  ∃ m0 l0, d = { c with msb8 := m0 :: c.msb8.drop 1, log2Rom := l0 ++ c.log2Rom.drop 128 } ∧ l0.length = 128

namespace Machine

/-- The host event is a request. -/
def HostEvent.isRequest : HostEvent → Bool
  | .request _ => true
  | .reset _ => false

/-- How many requests the host has still to present. -/
def State.waiting (s : State) : Nat :=
  s.inputs.countP HostEvent.isRequest

/-- The numbers of result words a response can have (R31). -/
def responseLengths : List Nat := [1, 2, 3, 4, 9]

/-- The invariant: the configuration is valid (R9, R88) and every response the host has received is a whole response of
some operation (R30). -/
def State.Inv (s : State) : Prop :=
  s.config.valid = true ∧ ∀ r ∈ s.responses, r.length ∈ responseLengths

/-- `z` limited to `lo .. hi`, written with tests; claims use it in place of the model's own narrowing. -/
def limit (lo hi z : Int) : Int :=
  if z < lo then lo else if hi < z then hi else z

/-- Signed saturation to 32 bits, as the claims write it. -/
def limit32 (z : Int) : Int :=
  limit (-(2 ^ 31)) (2 ^ 31 - 1) z

/-- Saturation of a logarithm that keeps it off the sentinel, as the claims write it (R72 (b)). -/
def limitLog (z : Int) : Int :=
  limit (-(2 ^ 31) + 1) (2 ^ 31 - 1) z

/-- The state with one more response received: what a completed operation leaves, everything else being unchanged. -/
abbrev received (s : State) (r : Packet) : State :=
  { s with responses := s.responses ++ [r] }

/-- Executing `i` in `s` completes with the response `r`, and changes nothing else: the configuration (with every entry
of every table), the host's list and the earlier responses are as before (R26, R30). -/
def Answers (s : State) (i : Instr) (r : Packet) : Prop :=
  exec i s = .next (received s r)

/-- The three legal sign words of a LOG32 operand (R33). -/
def LegalSign (w : Word) : Prop :=
  w = 0xFFFFFFFF#32 ∨ w = 0#32 ∨ w = 1#32

/-- The narrowed product of two Q16.16 words, as the claims write it (R46; "`M(a, b)`" of 44_pipeline3d.md). -/
def product (a b : Word) : Int :=
  limit32 (a.toInt * b.toInt / 65536)

/-- Putting a sign back on a magnitude, as the claims write it (R48): `t` is a product that has the sign. -/
def withSignOf (t : Int) (mag : Word) : Word :=
  BitVec.ofInt 32 (limit32 (if t < 0 then -(mag.toNat : Int) else mag.toNat))

/-- The magnitude of a signed word, as a word: that of the most negative one is `2^31`, which fits (42_fixedpoint.md
section 1). -/
def magnitude (w : Word) : Word :=
  BitVec.ofNat 32 w.toInt.natAbs

end Machine

end Sys2Proof
end

