-- ==== Sys2Proof/Certificates/Slice0/Obligations.lean ====
section
/-! DEFINITION. The statements for the provers. `Answers s i r` says that `exec i s` answers a next state in which the
response `r` has been received and nothing else has changed; so every statement with it in its conclusion says the
result, the frame and the completion at once. A configuration that is not valid has no meaning (R9), hence the premise
`s.config.valid = true`; `State.reset` meets it. -/

open Sys2Proof Sys2Proof.Machine

/-! ### Requests -/

/-- No operand bit is dropped: the packet of a well-formed instruction decodes to it (R29, R31, R33). -/
def Obligations.DecodeOfEncode : Prop :=
  ∀ i : Instr, i.wellFormed = true → decode (encode i) = .instr i

/-- Each instruction has one packet: what decodes to `i` is the packet of `i`, and `i` is well-formed (R29, R31, R34). -/
def Obligations.EncodeOfDecode : Prop :=
  ∀ (p : Packet) (i : Instr), decode p = .instr i → i.wellFormed = true ∧ encode i = p

/-- The decoder accepts exactly the legal requests, each as an instruction of its own operation (R34). -/
def Obligations.DecodeAcceptsExactlyLegalRequests : Prop :=
  ∀ (o : Op) (p : Packet), LegalFor o p ↔ ∃ i, decode p = .instr i ∧ i.op = o

/-- The packets of the examples of R35, R40, R46, R55, R69, R75 and R78 decode to what they stand for. -/
def Obligations.SpecPacketsDecode : Prop :=
  decode [0x00000001#32, 0x00012345#32] = .instr (.bitscan 0x00012345#32) ∧
  decode [0x00000010#32, 0x000003E8#32] = .instr (.log2 1000#32) ∧
  decode [0x00000020#32, 0x00018000#32, 0x00024000#32] = .instr (.mulExact 98304#32 147456#32) ∧
  decode [0x00000032#32, 0x00000001#32, 0xFFFFFFFE#32] = .instr (.atan2 1#32 (-2#32)) ∧
  decode [0x0000004C#32, 0x00010000#32, 0x00020000#32, 0x00200000#32, 0x01000000#32] =
    .instr (.projectPerspective ⟨65536#32, 131072#32, 2097152#32⟩ 16777216#32) ∧
  decode [0x00000052#32, 0x00000001#32, 0x000006A5#32, 0x00000001#32, 0x00000252#32] =
    .instr (.log32Mul ⟨1#32, 1701#32⟩ ⟨1#32, 594#32⟩) ∧
  decode [0x00000055#32, 0x00000001#32, 0x000006A5#32, 0x00008000#32] =
    .instr (.log32Pow ⟨1#32, 1701#32⟩ 32768#32)

/-- The operation table of R31: 38 operations, their codes all different, each code's high four bits the layer number
minus one but for BITSCAN, whose code is `0x01`. -/
def Obligations.OperationTable : Prop :=
  Op.all.length = 38 ∧ (∀ o : Op, o ∈ Op.all) ∧ (∀ o o' : Op, o.code = o'.code → o = o') ∧
  Op.bitscan.code = 0x01 ∧ (∀ o ∈ Op.layer1, o = .bitscan) ∧ (∀ o ∈ Op.layer2, o.code / 16 = 1) ∧
  (∀ o ∈ Op.layer3, o.code / 16 = 2) ∧ (∀ o ∈ Op.layer4, o.code / 16 = 3) ∧ (∀ o ∈ Op.layer5, o.code / 16 = 4) ∧
  (∀ o ∈ Op.layer6, o.code / 16 = 5)

/-- A ring operation given an operand whose sign word is not -1, 0 or 1 is refused, whatever its other words are. That
such a request is illegal is R34 (d); that `exec` itself refuses the ill-formed instruction as `illegalRequest ringSign`,
in every state, also on an invalid configuration, where the sign is tested first, is the model's reading (log entry 11,
DEDUCED). -/
def Obligations.IllegalSignIsRefused : Prop :=
  ∀ (s : State) (a b : Log32 Word) (k : Word),
    (¬ LegalSign a.sign →
      exec (.fromLog32 a) s = .refused (.illegalRequest .ringSign) ∧
      exec (.log32Pow a k) s = .refused (.illegalRequest .ringSign)) ∧
    (¬ LegalSign a.sign ∨ ¬ LegalSign b.sign →
      exec (.log32Mul a b) s = .refused (.illegalRequest .ringSign) ∧
      exec (.log32Div a b) s = .refused (.illegalRequest .ringSign) ∧
      exec (.log32Add a b) s = .refused (.illegalRequest .ringSign))

/-! ### The machine -/

/-- A step runs the decoded instruction: the request at the head of the host's list is taken off it, and what its packet
decodes to is executed (R28, R29). -/
def Obligations.StepRunsDecodedInstruction : Prop :=
  ∀ (s : State) (p : Packet) (rest : List HostEvent) (i : Instr),
    s.config.valid = true → s.inputs = .request p :: rest → decode p = .instr i →
      step s = exec i { s with inputs := rest }

/-- A step that meets an illegal request is refused as such: no value is returned and nothing is skipped (R34). -/
def Obligations.IllegalRequestIsRefused : Prop :=
  ∀ (s : State) (p : Packet) (rest : List HostEvent),
    s.config.valid = true → s.inputs = .request p :: rest → ¬ LegalRequest p →
      ∃ why, step s = .refused (.illegalRequest why)

/-- Every legal request is answered in one step (R28), with exactly the number `NRES` of result words of its operation
(R30, R31); nothing but the host's two lists changes (R26). -/
def Obligations.EveryLegalRequestIsAnswered : Prop :=
  ∀ (s : State) (o : Op) (p : Packet) (rest : List HostEvent),
    s.config.valid = true → s.inputs = .request p :: rest → LegalFor o p →
      ∃ r : Packet, r.length = o.nres ∧
        step s = .next { config := s.config, inputs := rest, responses := s.responses ++ [r] }

/-- Every well-formed instruction completes in every state with a valid configuration (R30, R79, R94). -/
def Obligations.EveryInstructionCompletes : Prop :=
  ∀ (s : State) (i : Instr), s.config.valid = true → i.wellFormed = true →
    ∃ r : Packet, r.length = i.op.nres ∧ Answers s i r

/-- Requests do not interfere: for each valid configuration there is one function from request to response such that any
sequence of legal requests, after any earlier responses, is answered request by request by that function, in order (R1,
R28, R91). -/
def Obligations.RequestsAreAnsweredInOrderByOneFunction : Prop :=
  ∀ c : Config, c.valid = true →
    ∃ f : Packet → Packet, ∀ (ps : List Packet) (rest : List HostEvent) (done : List Packet),
      (∀ p ∈ ps, LegalRequest p) →
        Host.Core.run Sys2Proof.core ps.length
            (State.mk c (ps.map HostEvent.request ++ rest) done) =
          .next (State.mk c rest (done ++ ps.map f))

/-- The unspecified table entries, `MSB8[0]` and `LOG2_ROM[0..127]`, are never read: no response depends on them (R16,
R18). -/
def Obligations.UnspecifiedEntriesAreNeverRead : Prop :=
  ∀ (s : State) (d : Config) (i : Instr) (r : Packet),
    s.config.SameSpecified d → Answers s i r → Answers { s with config := d } i r

/-- An invalid configuration is refused: by a step, and by each well-formed instruction. That a model must refuse to run
one is R9, R88; that every step, the idle one and a reset included, and every meaning answers `invalidConfiguration` is
the model's reading of it (log entry 7, DEDUCED). -/
def Obligations.InvalidConfigurationIsRefused : Prop :=
  ∀ s : State, s.config.valid = false →
    step s = .refused .invalidConfiguration ∧
      ∀ i : Instr, i.wellFormed = true → exec i s = .refused .invalidConfiguration

/-- No step and no instruction writes a table or a parameter, and no received response is ever changed or taken back; a
step that goes on takes at most the head of the host's list, and trades each request it takes for exactly one response
(R14, R26, R30, R90). -/
def Obligations.NothingIsWrittenAndEachRequestIsAnsweredOnce : Prop :=
  (∀ s t : State, step s = .next t →
    t.config = s.config ∧ t.inputs = s.inputs.tail ∧ s.responses <+: t.responses ∧
      t.waiting + t.responses.length = s.waiting + s.responses.length) ∧
    ∀ (i : Instr) (s t : State), exec i s = .next t →
      t.config = s.config ∧ t.inputs = s.inputs ∧ s.responses <+: t.responses ∧
        t.responses.length = s.responses.length + 1

/-- The invariant: the configuration is valid and every received response has the length of a whole response. Every step
keeps it. -/
def Obligations.EveryStepKeepsInv : Prop :=
  ∀ s t : State, s.Inv → step s = .next t → t.Inv

/-- The invariant holds right after reset, for a unit built with any valid configuration, the one `State.reset` has among
them. That the list of received responses is empty there is the model's choice (log entry 3, DESIGN CHOICE), and so is
the configuration of `State.reset` (log entry 2, DESIGN CHOICE). -/
def Obligations.ResetHasInv : Prop :=
  (∀ c : Config, c.valid = true → (State.initial c).Inv) ∧ State.reset.Inv

/-- The reset input changes no table, produces no response for the request it cuts off, and leaves the unit ready for the
next thing the host does (R87). That a reset is an event of the host's list is the model's (log entry 5). -/
def Obligations.ResetInputDiscardsTheRequest : Prop :=
  ∀ (s : State) (cut : Packet) (rest : List HostEvent),
    s.config.valid = true → s.inputs = .reset cut :: rest → step s = .next { s with inputs := rest }

/-- The state after reset: no request pending (R87), and the reference configuration, which is valid: the tables listed
in R93, written out as `Config.reference`, and the reference parameters. That it is the reference configuration is the
model's choice (log entry 2, DESIGN CHOICE), and so is the empty list of received responses (log entry 3, DESIGN
CHOICE). -/
def Obligations.ResetState : Prop :=
  State.reset.inputs = [] ∧ State.reset.responses = [] ∧ State.reset.config = Config.reference ∧
    State.reset.config.valid = true ∧ State.reset.config.lq = 8 ∧ State.reset.config.eq = 8 ∧ State.reset.config.sinBits = 8 ∧
    State.reset.config.atanBits = 8 ∧ State.reset.config.acosBits = 8 ∧ State.reset.config.logInterp = false

/-! ### Layers 1 and 2 -/

/-- BITSCAN returns the unique `e` with `2^e <= v < 2^(e+1)`, and -1 for zero: the closed form that R35 marks as derived
from its pseudocode and R16. -/
def Obligations.BitscanIsFloorLog2 : Prop :=
  ∀ (s : State) (v : Word), s.config.valid = true →
    decode [0x01#32, v] = .instr (.bitscan v) ∧
    (v = 0#32 → Answers s (.bitscan v) [0xFFFFFFFF#32]) ∧
    ∀ e : Nat, 2 ^ e ≤ v.toNat → v.toNat < 2 ^ (e + 1) → Answers s (.bitscan v) [BitVec.ofNat 32 e]

/-- LOG2 with `LOG_INTERP = 0` (R36, R40): `e` is the index of the highest set bit and `v * 128 / 2^e` the 8-bit
mantissa, whose table entry exists. -/
def Obligations.Log2Plain : Prop :=
  ∀ (s : State) (v : Word), s.config.valid = true → s.config.logInterp = false →
    decode [0x10#32, v] = .instr (.log2 v) ∧
    (v = 0#32 → Answers s (.log2 v) [0x80000000#32]) ∧
    ∀ e : Nat, 2 ^ e ≤ v.toNat → v.toNat < 2 ^ (e + 1) →
      ∃ t : Int, s.config.log2Rom[v.toNat * 128 / 2 ^ e]? = some t ∧
        Answers s (.log2 v) [BitVec.ofInt 32 (((e : Int) - 7) * 2 ^ s.config.lq + t)]

/-- LOG2 with `LOG_INTERP = 1` (R37, R40): up to `e = 7` as without; above, the point on the line between the entry of
the mantissa and the next one, after 255 the one an octave above entry 128. -/
def Obligations.Log2Interpolated : Prop :=
  ∀ (s : State) (v : Word), s.config.valid = true → s.config.logInterp = true →
    decode [0x10#32, v] = .instr (.log2 v) ∧
    (v = 0#32 → Answers s (.log2 v) [0x80000000#32]) ∧
    (∀ e : Nat, 2 ^ e ≤ v.toNat → v.toNat < 2 ^ (e + 1) → e ≤ 7 →
      ∃ t : Int, s.config.log2Rom[v.toNat * 2 ^ (7 - e)]? = some t ∧
        Answers s (.log2 v) [BitVec.ofInt 32 (((e : Int) - 7) * 2 ^ s.config.lq + t)]) ∧
    ∀ nb : Nat, 1 ≤ nb → 2 ^ (nb + 7) ≤ v.toNat → v.toNat < 2 ^ (nb + 8) →
      ∃ t₀ t₁ : Int, s.config.log2Rom[v.toNat / 2 ^ nb]? = some t₀ ∧
        (if v.toNat / 2 ^ nb = 255 then s.config.log2Rom[128]? = some (t₁ - 2 ^ s.config.lq)
          else s.config.log2Rom[v.toNat / 2 ^ nb + 1]? = some t₁) ∧
        Answers s (.log2 v)
          [BitVec.ofInt 32 ((nb : Int) * 2 ^ s.config.lq + t₀ + (t₁ - t₀) * (v.toNat % 2 ^ nb : Nat) / 2 ^ nb)]

/-- With a table that meets the monotonicity clauses LOG2 is monotonic, for both values of `LOG_INTERP` (R18, R45 (a)). -/
def Obligations.Log2IsMonotonic : Prop :=
  ∀ (s : State) (v₁ v₂ : Word), s.config.valid = true → s.config.Log2Monotone → v₁ ≠ 0#32 → v₁.toNat < v₂.toNat →
    ∃ l₁ l₂ : Word, Answers s (.log2 v₁) [l₁] ∧ Answers s (.log2 v₂) [l₂] ∧ l₁.toInt ≤ l₂.toInt

/-- EXP2 with `LOG_INTERP = 0` (R38, R41), in the unbounded arithmetic of the rule: `i` and `f` are the floor split of
`y`, the table entry of the top 8 bits of `f` exists, and the shift by `i - EQ` is exact or drops bits. -/
def Obligations.Exp2Plain : Prop :=
  ∀ (s : State) (y : Word), s.config.valid = true → s.config.logInterp = false →
    decode [0x11#32, y] = .instr (.exp2 y) ∧
    ∃ t : Int,
      s.config.exp2Rom[(y.toInt % 2 ^ s.config.lq).toNat / 2 ^ (s.config.lq - 8)]? = some t ∧
      ∀ n : Nat,
        (y.toInt / 2 ^ s.config.lq = (s.config.eq : Int) + n →
          Answers s (.exp2 y) [BitVec.ofInt 32 (min (t * 2 ^ n) (2 ^ 32 - 1))]) ∧
        (y.toInt / 2 ^ s.config.lq = (s.config.eq : Int) - n →
          Answers s (.exp2 y) [BitVec.ofInt 32 (min (t / 2 ^ n) (2 ^ 32 - 1))])

/-- EXP2 with `LOG_INTERP = 1` (R39, R41): the fraction bits below the top 8 place `t` on the line between an entry and
the next one, after 255 twice entry 0; with `LQ = 8` there are none. -/
def Obligations.Exp2Interpolated : Prop :=
  ∀ (s : State) (y : Word) (f sh : Nat), s.config.valid = true → s.config.logInterp = true →
    (f : Int) = y.toInt % 2 ^ s.config.lq → s.config.lq = 8 + sh →
    decode [0x11#32, y] = .instr (.exp2 y) ∧
    ∃ t₀ t₁ h₀ t : Int,
      s.config.exp2Rom[f / 2 ^ sh]? = some t₀ ∧ s.config.exp2Rom[0]? = some h₀ ∧
      (if f / 2 ^ sh = 255 then t₁ = 2 * h₀ else s.config.exp2Rom[f / 2 ^ sh + 1]? = some t₁) ∧
      t = (if sh = 0 then t₀ else t₀ + (t₁ - t₀) * (f % 2 ^ sh : Nat) / 2 ^ sh) ∧
      ∀ n : Nat,
        (y.toInt / 2 ^ s.config.lq = (s.config.eq : Int) + n →
          Answers s (.exp2 y) [BitVec.ofInt 32 (min (t * 2 ^ n) (2 ^ 32 - 1))]) ∧
        (y.toInt / 2 ^ s.config.lq = (s.config.eq : Int) - n →
          Answers s (.exp2 y) [BitVec.ofInt 32 (min (t / 2 ^ n) (2 ^ 32 - 1))])

/-- EXP2 is 0 exactly for a negative logarithm and `U32_MAX` exactly from `32 * 2^LQ` on: always with `LOG_INTERP = 0`
(the sentence of R38 marked derived from R19), and with `LOG_INTERP = 1` when `LQ = 8`, where R39 is the same function, or
when `EXP2_ROM[0] = 2^EQ` (the sentence of R39 marked derived; the monotone table it asks for as well is not needed). -/
def Obligations.Exp2ClampsExactlyOutsideItsRange : Prop :=
  ∀ (s : State) (y : Word), s.config.valid = true →
    (s.config.logInterp = true → s.config.lq ≠ 8 → s.config.exp2Rom[0]? = some (2 ^ s.config.eq)) →
    ∃ r : Word, Answers s (.exp2 y) [r] ∧ (r = 0#32 ↔ y.toInt < 0) ∧
      (r = 0xFFFFFFFF#32 ↔ 32 * 2 ^ s.config.lq ≤ y.toInt)

/-- MUL_APPROX is LOG2 of both, the sum, and EXP2; a zero operand gives 0 (R42). -/
def Obligations.MulApproxByLogarithms : Prop :=
  ∀ (s : State) (a b : Word), s.config.valid = true →
    decode [0x12#32, a, b] = .instr (.mulApprox a b) ∧
    ∃ la lb e : Word, Answers s (.log2 a) [la] ∧ Answers s (.log2 b) [lb] ∧
      Answers s (.exp2 (BitVec.ofInt 32 (la.toInt + lb.toInt))) [e] ∧
      Answers s (.mulApprox a b) [if a = 0#32 ∨ b = 0#32 then 0#32 else e]

/-- DIV_APPROX is LOG2 of both, the difference, and EXP2; a zero divisor, tested first, gives `U32_MAX`, a zero dividend
gives 0 (R43). -/
def Obligations.DivApproxByLogarithms : Prop :=
  ∀ (s : State) (n d : Word), s.config.valid = true →
    decode [0x13#32, n, d] = .instr (.divApprox n d) ∧
    ∃ ln ld e : Word, Answers s (.log2 n) [ln] ∧ Answers s (.log2 d) [ld] ∧
      Answers s (.exp2 (BitVec.ofInt 32 (ln.toInt - ld.toInt))) [e] ∧
      Answers s (.divApprox n d) [if d = 0#32 then 0xFFFFFFFF#32 else if n = 0#32 then 0#32 else e]

/-- POW_APPROX is LOG2, the scaling by the Q16.16 exponent rounded down, and EXP2; the scaled logarithm may need more
than 32 bits, and then EXP2 of the nearest word gives the same (R44). Zero gives 0 for every exponent. -/
def Obligations.PowApproxByLogarithms : Prop :=
  ∀ (s : State) (a k : Word), s.config.valid = true →
    decode [0x14#32, a, k] = .instr (.powApprox a k) ∧
    ∃ l e : Word, Answers s (.log2 a) [l] ∧
      Answers s (.exp2 (BitVec.ofInt 32 (limit32 (l.toInt * k.toInt / 65536)))) [e] ∧
      Answers s (.powApprox a k) [if a = 0#32 then 0#32 else e]

/-! ### Layer 3 -/

/-- MUL_EXACT is the exact product, its low 16 bits dropped toward minus infinity, saturated (R46). -/
def Obligations.MulExact : Prop :=
  ∀ (s : State) (a b : Word), s.config.valid = true →
    decode [0x20#32, a, b] = .instr (.mulExact a b) ∧
    Answers s (.mulExact a b) [BitVec.ofInt 32 (limit32 (a.toInt * b.toInt / 65536))]

/-- DIV_EXACT is the exact quotient of the widened dividend, rounded toward zero, saturated; a zero divisor gives the
extreme of the dividend's sign (R47). -/
def Obligations.DivExact : Prop :=
  ∀ (s : State) (n d : Word), s.config.valid = true →
    decode [0x21#32, n, d] = .instr (.divExact n d) ∧
    (d = 0#32 → Answers s (.divExact n d) [if n.toInt < 0 then 0x80000000#32 else 0x7FFFFFFF#32]) ∧
    (d ≠ 0#32 → Answers s (.divExact n d) [BitVec.ofInt 32 (limit32 (Int.tdiv (n.toInt * 65536) d.toInt))])

/-- QMUL_APPROX on magnitudes through LOG2 and EXP2 with the bias of the format, the sign put back (R48). -/
def Obligations.QmulApproxByLogarithms : Prop :=
  ∀ (s : State) (a b : Word), s.config.valid = true →
    decode [0x22#32, a, b] = .instr (.qmulApprox a b) ∧
    ∃ la lb e : Word, Answers s (.log2 (magnitude a)) [la] ∧ Answers s (.log2 (magnitude b)) [lb] ∧
      Answers s (.exp2 (BitVec.ofInt 32 (la.toInt + lb.toInt - 16 * 2 ^ s.config.lq))) [e] ∧
      Answers s (.qmulApprox a b) [if a = 0#32 ∨ b = 0#32 then 0#32 else withSignOf (a.toInt * b.toInt) e]

/-- QDIV_APPROX on magnitudes through LOG2 and EXP2 with the bias of the format, the sign put back; a zero divisor,
tested first, gives the extreme of the dividend's sign (R49). -/
def Obligations.QdivApproxByLogarithms : Prop :=
  ∀ (s : State) (n d : Word), s.config.valid = true →
    decode [0x23#32, n, d] = .instr (.qdivApprox n d) ∧
    ∃ ln ld e : Word, Answers s (.log2 (magnitude n)) [ln] ∧ Answers s (.log2 (magnitude d)) [ld] ∧
      Answers s (.exp2 (BitVec.ofInt 32 (ln.toInt - ld.toInt + 16 * 2 ^ s.config.lq))) [e] ∧
      Answers s (.qdivApprox n d)
        [if d = 0#32 then (if n.toInt < 0 then 0x80000000#32 else 0x7FFFFFFF#32)
         else if n = 0#32 then 0#32 else withSignOf (n.toInt * d.toInt) e]

/-- SQRT is one LOG2 and one EXP2: half the logarithm, rounded down, plus the bias; 0 for `x <= 0` (R50). -/
def Obligations.SqrtByLogarithms : Prop :=
  ∀ (s : State) (x : Word), s.config.valid = true →
    decode [0x24#32, x] = .instr (.sqrt x) ∧
    ∃ l e : Word, Answers s (.log2 x) [l] ∧
      Answers s (.exp2 (BitVec.ofInt 32 (l.toInt / 2 + 8 * 2 ^ s.config.lq))) [e] ∧
      Answers s (.sqrt x) [if x.toInt ≤ 0 then 0#32 else BitVec.ofInt 32 (limit32 e.toNat)]

/-- INVERSE_SQRT is one LOG2 and one EXP2: the bias less half the logarithm, rounded down; `INT32_MAX` for `x <= 0`
(R51). -/
def Obligations.InverseSqrtByLogarithms : Prop :=
  ∀ (s : State) (x : Word), s.config.valid = true →
    decode [0x25#32, x] = .instr (.inverseSqrt x) ∧
    ∃ l e : Word, Answers s (.log2 x) [l] ∧
      Answers s (.exp2 (BitVec.ofInt 32 (24 * 2 ^ s.config.lq - l.toInt / 2))) [e] ∧
      Answers s (.inverseSqrt x) [if x.toInt ≤ 0 then 0x7FFFFFFF#32 else BitVec.ofInt 32 (limit32 e.toNat)]

/-- LERP: the shift applies to the product only, the sum is saturated (R52). -/
def Obligations.Lerp : Prop :=
  ∀ (s : State) (a b t : Word), s.config.valid = true →
    decode [0x26#32, a, b, t] = .instr (.lerp a b t) ∧
    Answers s (.lerp a b t) [BitVec.ofInt 32 (limit32 (a.toInt + (b.toInt - a.toInt) * t.toInt / 65536))]

/-- The endpoints of LERP are exact for every `a` and `b`, equal ends give that value for every `t`, and multiplying by
1.0 is the identity (R46, R52). -/
def Obligations.ExactEndpointsAndUnit : Prop :=
  ∀ (s : State) (a b t : Word), s.config.valid = true →
    Answers s (.lerp a b 0#32) [a] ∧ Answers s (.lerp a b 65536#32) [b] ∧ Answers s (.lerp a a t) [a] ∧
      Answers s (.mulExact a 65536#32) [a] ∧ Answers s (.mulExact 65536#32 a) [a]

/-! ### Layer 4 -/

/-- SIN and COS read the entry at the top `SIN_BITS` bits of the angle's low 16, each from its own column (R53, R54). -/
def Obligations.SinAndCosReadTheirColumns : Prop :=
  ∀ (s : State) (angle : Word), s.config.valid = true →
    decode [0x30#32, angle] = .instr (.sin angle) ∧ decode [0x31#32, angle] = .instr (.cos angle) ∧
    ∃ x y : Int,
      s.config.sinRom[angle.toNat % 65536 / 2 ^ (16 - s.config.sinBits)]? = some x ∧
      s.config.cosRom[angle.toNat % 65536 / 2 ^ (16 - s.config.sinBits)]? = some y ∧
      Answers s (.sin angle) [BitVec.ofInt 32 x] ∧ Answers s (.cos angle) [BitVec.ofInt 32 y] ∧
      -65536 ≤ x ∧ x ≤ 65536 ∧ -65536 ≤ y ∧ y ≤ 65536

/-- ATAN2 (R55): 0 at the origin; elsewhere the entry of the ratio of the smaller to the larger magnitude, its index
clamped, reflected about the diagonal, the y axis and the x axis in that order, modulo one turn. -/
def Obligations.Atan2ByOctantFolding : Prop :=
  ∀ (s : State) (y x : Word) (lo hi : Nat), s.config.valid = true →
    lo = min y.toInt.natAbs x.toInt.natAbs → hi = max y.toInt.natAbs x.toInt.natAbs →
    decode [0x32#32, y, x] = .instr (.atan2 y x) ∧
    (hi = 0 → Answers s (.atan2 y x) [0#32]) ∧
    (hi ≠ 0 →
      ∃ a a₁ a₂ a₃ : Int,
        s.config.atanRom[min (lo * 2 ^ s.config.atanBits / hi) (2 ^ s.config.atanBits - 1)]? = some a ∧
        a₁ = (if x.toInt.natAbs < y.toInt.natAbs then 16384 - a else a) ∧
        a₂ = (if x.toInt < 0 then 32768 - a₁ else a₁) ∧
        a₃ = (if y.toInt < 0 then -a₂ else a₂) ∧
        Answers s (.atan2 y x) [BitVec.ofInt 32 (a₃ % 65536)])

/-- ACOS (R56): the entry of the magnitude clamped to 1.0, its index clamped, reflected about a quarter turn for a
negative argument; the result is an angle of at most half a turn. -/
def Obligations.AcosByReflection : Prop :=
  ∀ (s : State) (x : Word), s.config.valid = true →
    decode [0x33#32, x] = .instr (.acos x) ∧
    ∃ e r : Int,
      s.config.acosRom[min (min x.toInt.natAbs 65536 * 2 ^ s.config.acosBits / 65536) (2 ^ s.config.acosBits - 1)]? =
        some e ∧
      r = (if x.toInt < 0 then 32768 - e else e) ∧ 0 ≤ r ∧ r ≤ 32768 ∧ Answers s (.acos x) [BitVec.ofInt 32 r]

/-! ### Layer 5 -/

/-- VEC3_ADD and VEC3_SUB saturate per component (R57, R58). -/
def Obligations.Vec3AddAndSub : Prop :=
  ∀ (s : State) (a b : Vec3 Word), s.config.valid = true →
    decode [0x40#32, a.x, a.y, a.z, b.x, b.y, b.z] = .instr (.vec3Add a b) ∧
    decode [0x41#32, a.x, a.y, a.z, b.x, b.y, b.z] = .instr (.vec3Sub a b) ∧
    Answers s (.vec3Add a b)
      [BitVec.ofInt 32 (limit32 (a.x.toInt + b.x.toInt)), BitVec.ofInt 32 (limit32 (a.y.toInt + b.y.toInt)),
        BitVec.ofInt 32 (limit32 (a.z.toInt + b.z.toInt))] ∧
    Answers s (.vec3Sub a b)
      [BitVec.ofInt 32 (limit32 (a.x.toInt - b.x.toInt)), BitVec.ofInt 32 (limit32 (a.y.toInt - b.y.toInt)),
        BitVec.ofInt 32 (limit32 (a.z.toInt - b.z.toInt))]

/-- VEC3_DOT and VEC3_CROSS: each product narrowed on its own, one saturation per component (R59, R60). -/
def Obligations.Vec3DotAndCross : Prop :=
  ∀ (s : State) (a b : Vec3 Word), s.config.valid = true →
    decode [0x42#32, a.x, a.y, a.z, b.x, b.y, b.z] = .instr (.vec3Dot a b) ∧
    decode [0x43#32, a.x, a.y, a.z, b.x, b.y, b.z] = .instr (.vec3Cross a b) ∧
    Answers s (.vec3Dot a b) [BitVec.ofInt 32 (limit32 (product a.x b.x + product a.y b.y + product a.z b.z))] ∧
    Answers s (.vec3Cross a b)
      [BitVec.ofInt 32 (limit32 (product a.y b.z - product a.z b.y)),
        BitVec.ofInt 32 (limit32 (product a.z b.x - product a.x b.z)),
        BitVec.ofInt 32 (limit32 (product a.x b.y - product a.y b.x))]

/-- `a × a` is exactly zero, and the scalar product is commutative, saturation included (R59, R60). -/
def Obligations.CrossSelfIsZeroAndDotCommutes : Prop :=
  ∀ (s : State) (a b : Vec3 Word), s.config.valid = true →
    Answers s (.vec3Cross a a) [0#32, 0#32, 0#32] ∧ ∃ r : Word, Answers s (.vec3Dot a b) [r] ∧ Answers s (.vec3Dot b a) [r]

/-- VEC3_LENGTH is SQRT of VEC3_DOT of the vector with itself; VEC3_NORMALIZE multiplies each component by INVERSE_SQRT of
it (R61, R62). -/
def Obligations.Vec3LengthAndNormalizeByDot : Prop :=
  ∀ (s : State) (v : Vec3 Word), s.config.valid = true →
    decode [0x44#32, v.x, v.y, v.z] = .instr (.vec3Length v) ∧
    decode [0x45#32, v.x, v.y, v.z] = .instr (.vec3Normalize v) ∧
    ∃ n len k x y z : Word, Answers s (.vec3Dot v v) [n] ∧ Answers s (.sqrt n) [len] ∧ Answers s (.vec3Length v) [len] ∧
      Answers s (.inverseSqrt n) [k] ∧ Answers s (.mulExact v.x k) [x] ∧ Answers s (.mulExact v.y k) [y] ∧
      Answers s (.mulExact v.z k) [z] ∧ Answers s (.vec3Normalize v) [x, y, z]

/-- MAT3_MUL_VEC3 is VEC3_DOT of each row and the vector; MAT3_MUL is MAT3_MUL_VEC3 of each column, row-major (R63,
R64). -/
def Obligations.Mat3ProductsByDot : Prop :=
  ∀ (s : State) (a b : Mat3 Word) (v : Vec3 Word), s.config.valid = true →
    decode (0x46#32 :: (a.words ++ b.words)) = .instr (.mat3Mul a b) ∧
    decode (0x47#32 :: (a.words ++ v.words)) = .instr (.mat3MulVec3 a v) ∧
    (∃ p q r : Word, Answers s (.vec3Dot a.r0 v) [p] ∧ Answers s (.vec3Dot a.r1 v) [q] ∧ Answers s (.vec3Dot a.r2 v) [r] ∧
      Answers s (.mat3MulVec3 a v) [p, q, r]) ∧
    ∃ c d e : Vec3 Word,
      Answers s (.mat3MulVec3 a ⟨b.r0.x, b.r1.x, b.r2.x⟩) c.words ∧
      Answers s (.mat3MulVec3 a ⟨b.r0.y, b.r1.y, b.r2.y⟩) d.words ∧
      Answers s (.mat3MulVec3 a ⟨b.r0.z, b.r1.z, b.r2.z⟩) e.words ∧
      Answers s (.mat3Mul a b) [c.x, d.x, e.x, c.y, d.y, e.y, c.z, d.z, e.z]

/-- The identity matrix is an exact two-sided unit of MAT3_MUL and leaves every vector as it is (R63, R64). -/
def Obligations.IdentityMatrixIsExactUnit : Prop :=
  ∀ (s : State) (a : Mat3 Word) (v : Vec3 Word), s.config.valid = true →
    Answers s (.mat3Mul ⟨⟨65536#32, 0#32, 0#32⟩, ⟨0#32, 65536#32, 0#32⟩, ⟨0#32, 0#32, 65536#32⟩⟩ a) a.words ∧
    Answers s (.mat3Mul a ⟨⟨65536#32, 0#32, 0#32⟩, ⟨0#32, 65536#32, 0#32⟩, ⟨0#32, 0#32, 65536#32⟩⟩) a.words ∧
    Answers s (.mat3MulVec3 ⟨⟨65536#32, 0#32, 0#32⟩, ⟨0#32, 65536#32, 0#32⟩, ⟨0#32, 0#32, 65536#32⟩⟩ v) v.words

/-- MAT3_ROTATION_EULER is `Rz·(Ry·Rx)` by two MAT3_MUL, of the three elementary matrices built from the responses of SIN
and COS (R65). -/
def Obligations.EulerIsTwoMatrixProducts : Prop :=
  ∀ (s : State) (ax ay az : Word), s.config.valid = true →
    decode [0x48#32, ax, ay, az] = .instr (.mat3RotationEuler ax ay az) ∧
    ∃ (sx cx sy cy sz cz : Word) (m r : Mat3 Word),
      Answers s (.sin ax) [sx] ∧ Answers s (.cos ax) [cx] ∧ Answers s (.sin ay) [sy] ∧ Answers s (.cos ay) [cy] ∧
      Answers s (.sin az) [sz] ∧ Answers s (.cos az) [cz] ∧
      Answers s
        (.mat3Mul ⟨⟨cy, 0#32, sy⟩, ⟨0#32, 65536#32, 0#32⟩, ⟨-sy, 0#32, cy⟩⟩
          ⟨⟨65536#32, 0#32, 0#32⟩, ⟨0#32, cx, -sx⟩, ⟨0#32, sx, cx⟩⟩) m.words ∧
      Answers s (.mat3Mul ⟨⟨cz, -sz, 0#32⟩, ⟨sz, cz, 0#32⟩, ⟨0#32, 0#32, 65536#32⟩⟩ m) r.words ∧
      Answers s (.mat3RotationEuler ax ay az) r.words

/-- QUAT_FROM_AXIS_ANGLE: COS and SIN of half the angle, its low bit dropped, the axis multiplied by the sine and not
normalised (R66). -/
def Obligations.QuatFromAxisAngleByHalfAngle : Prop :=
  ∀ (s : State) (axis : Vec3 Word) (angle half : Word), s.config.valid = true →
    half.toNat = angle.toNat % 65536 / 2 →
    decode [0x49#32, axis.x, axis.y, axis.z, angle] = .instr (.quatFromAxisAngle axis angle) ∧
    ∃ k w x y z : Word, Answers s (.sin half) [k] ∧ Answers s (.cos half) [w] ∧ Answers s (.mulExact axis.x k) [x] ∧
      Answers s (.mulExact axis.y k) [y] ∧ Answers s (.mulExact axis.z k) [z] ∧
      Answers s (.quatFromAxisAngle axis angle) [w, x, y, z]

/-- QUAT_ROTATE_VEC is the two-cross-product form: VEC3_CROSS, the saturated doubling, VEC3_CROSS again, and an exact
three-term sum saturated once per component (R67). -/
def Obligations.QuatRotateVecByTwoCrossProducts : Prop :=
  ∀ (s : State) (q : Quat Word) (v : Vec3 Word), s.config.valid = true →
    decode (0x4A#32 :: (q.words ++ v.words)) = .instr (.quatRotateVec q v) ∧
    ∃ t t₂ c₂ : Vec3 Word, Answers s (.vec3Cross ⟨q.x, q.y, q.z⟩ v) t.words ∧ Answers s (.vec3Add t t) t₂.words ∧
      Answers s (.vec3Cross ⟨q.x, q.y, q.z⟩ t₂) c₂.words ∧
      Answers s (.quatRotateVec q v)
        [BitVec.ofInt 32 (limit32 (v.x.toInt + product q.w t₂.x + c₂.x.toInt)),
          BitVec.ofInt 32 (limit32 (v.y.toInt + product q.w t₂.y + c₂.y.toInt)),
          BitVec.ofInt 32 (limit32 (v.z.toInt + product q.w t₂.z + c₂.z.toInt))]

/-- QUAT_NORMALIZE multiplies each component by INVERSE_SQRT of the saturated sum of the four squares (R68). -/
def Obligations.QuatNormalizeByInverseSqrt : Prop :=
  ∀ (s : State) (q : Quat Word), s.config.valid = true →
    decode [0x4B#32, q.w, q.x, q.y, q.z] = .instr (.quatNormalize q) ∧
    ∃ k w x y z : Word,
      Answers s
        (.inverseSqrt (BitVec.ofInt 32
          (limit32 (product q.w q.w + product q.x q.x + product q.y q.y + product q.z q.z)))) [k] ∧
      Answers s (.mulExact q.w k) [w] ∧ Answers s (.mulExact q.x k) [x] ∧ Answers s (.mulExact q.y k) [y] ∧
      Answers s (.mulExact q.z k) [z] ∧ Answers s (.quatNormalize q) [w, x, y, z]

/-- PROJECT_PERSPECTIVE divides the full product by the exact 33-bit denominator, rounding toward zero; a zero denominator
becomes 1; `z` is passed through (R69). -/
def Obligations.ProjectPerspective : Prop :=
  ∀ (s : State) (v : Vec3 Word) (focal : Word) (d : Int), s.config.valid = true →
    d = (if v.z.toInt + focal.toInt = 0 then 1 else v.z.toInt + focal.toInt) →
    decode [0x4C#32, v.x, v.y, v.z, focal] = .instr (.projectPerspective v focal) ∧
    Answers s (.projectPerspective v focal)
      [BitVec.ofInt 32 (limit32 (Int.tdiv (v.x.toInt * focal.toInt) d)),
        BitVec.ofInt 32 (limit32 (Int.tdiv (v.y.toInt * focal.toInt) d)), v.z]

/-- PIPELINE_MVP answers what a host gets from MUL_EXACT three times, MAT3_ROTATION_EULER, MAT3_MUL_VEC3, VEC3_ADD and
PROJECT_PERSPECTIVE, one after another: the sentence of R70 that it marks derived from R46, R65, R64, R57 and R69. -/
def Obligations.PipelineMvpIsTheHostSequence : Prop :=
  ∀ (s : State) (v : Vec3 Word) (scale ax ay az : Word) (t : Vec3 Word) (focal : Word), s.config.valid = true →
    decode [0x4D#32, v.x, v.y, v.z, scale, ax, ay, az, t.x, t.y, t.z, focal] =
      .instr (.pipelineMvp v scale ax ay az t focal) ∧
    ∃ (p : Vec3 Word) (m : Mat3 Word) (q w r : Vec3 Word),
      Answers s (.mulExact v.x scale) [p.x] ∧ Answers s (.mulExact v.y scale) [p.y] ∧
      Answers s (.mulExact v.z scale) [p.z] ∧ Answers s (.mat3RotationEuler ax ay az) m.words ∧
      Answers s (.mat3MulVec3 m p) q.words ∧ Answers s (.vec3Add q t) w.words ∧
      Answers s (.projectPerspective w focal) r.words ∧ Answers s (.pipelineMvp v scale ax ay az t focal) r.words

/-- PIPELINE_MVP_FUSED: the same sequence up to the view-space point `w`, then the divide in the log domain by the
denominator narrowed to 32 bits: three LOG2 in one sum, one EXP2, the sign put back; a zero numerator or focal length
gives 0; the third word is the view-space `z` (R71). -/
def Obligations.PipelineMvpFusedDividesInTheLogDomain : Prop :=
  ∀ (s : State) (v : Vec3 Word) (scale ax ay az : Word) (t : Vec3 Word) (focal : Word), s.config.valid = true →
    decode [0x4E#32, v.x, v.y, v.z, scale, ax, ay, az, t.x, t.y, t.z, focal] =
      .instr (.pipelineMvpFused v scale ax ay az t focal) ∧
    ∃ (p : Vec3 Word) (m : Mat3 Word) (q w : Vec3 Word) (d lx ly lf ld ex ey : Word),
      Answers s (.mulExact v.x scale) [p.x] ∧ Answers s (.mulExact v.y scale) [p.y] ∧
      Answers s (.mulExact v.z scale) [p.z] ∧ Answers s (.mat3RotationEuler ax ay az) m.words ∧
      Answers s (.mat3MulVec3 m p) q.words ∧ Answers s (.vec3Add q t) w.words ∧
      d.toInt = (if w.z.toInt + focal.toInt = 0 then 1 else limit32 (w.z.toInt + focal.toInt)) ∧
      Answers s (.log2 (magnitude w.x)) [lx] ∧ Answers s (.log2 (magnitude w.y)) [ly] ∧
      Answers s (.log2 (magnitude focal)) [lf] ∧ Answers s (.log2 (magnitude d)) [ld] ∧
      Answers s (.exp2 (BitVec.ofInt 32 (lx.toInt + lf.toInt - ld.toInt))) [ex] ∧
      Answers s (.exp2 (BitVec.ofInt 32 (ly.toInt + lf.toInt - ld.toInt))) [ey] ∧
      Answers s (.pipelineMvpFused v scale ax ay az t focal)
        [if w.x = 0#32 ∨ focal = 0#32 then 0#32 else withSignOf (w.x.toInt * focal.toInt * d.toInt) ex,
          if w.y = 0#32 ∨ focal = 0#32 then 0#32 else withSignOf (w.y.toInt * focal.toInt * d.toInt) ey, w.z]

/-! ### Layer 6 -/

/-- TO_LOG32 pairs the sign with LOG2 of the magnitude, zero with the sentinel (R73). -/
def Obligations.ToLog32ByLog2 : Prop :=
  ∀ (s : State) (v : Word), s.config.valid = true →
    decode [0x50#32, v] = .instr (.toLog32 v) ∧
    ∃ l : Word, Answers s (.log2 (magnitude v)) [l] ∧
      Answers s (.toLog32 v)
        (if v = 0#32 then [0#32, 0x80000000#32] else if 0 < v.toInt then [1#32, l] else [0xFFFFFFFF#32, l])

/-- FROM_LOG32 is EXP2 of the log word with the sign put back, saturated; a sign of 0 gives 0 whatever the log word
(R74). -/
def Obligations.FromLog32ByExp2 : Prop :=
  ∀ (s : State) (a : Log32 Word), s.config.valid = true → LegalSign a.sign →
    decode [0x51#32, a.sign, a.log] = .instr (.fromLog32 a) ∧
    ∃ e : Word, Answers s (.exp2 a.log) [e] ∧
      Answers s (.fromLog32 a) [if a.sign = 0#32 then 0#32 else withSignOf a.sign.toInt e]

/-- LOG32_MUL: zero absorbs; otherwise the signs multiply and the logarithms add, saturated off the sentinel (R75).
LOG32_DIV: a zero divisor, tested first, gives the largest magnitude of the dividend's sign, a zero dividend zero;
otherwise the signs multiply and the logarithms subtract (R76). -/
def Obligations.Log32MulAndDiv : Prop :=
  ∀ (s : State) (a b : Log32 Word), s.config.valid = true → LegalSign a.sign → LegalSign b.sign →
    decode [0x52#32, a.sign, a.log, b.sign, b.log] = .instr (.log32Mul a b) ∧
    decode [0x53#32, a.sign, a.log, b.sign, b.log] = .instr (.log32Div a b) ∧
    Answers s (.log32Mul a b)
      (if a.sign = 0#32 ∨ b.sign = 0#32 then [0#32, 0x80000000#32]
       else [if a.sign = b.sign then 1#32 else 0xFFFFFFFF#32,
        BitVec.ofInt 32 (limitLog (a.log.toInt + b.log.toInt))]) ∧
    Answers s (.log32Div a b)
      (if b.sign = 0#32 then [if a.sign = 0xFFFFFFFF#32 then 0xFFFFFFFF#32 else 1#32, 0x7FFFFFFF#32]
       else if a.sign = 0#32 then [0#32, 0x80000000#32]
       else [if a.sign = b.sign then 1#32 else 0xFFFFFFFF#32,
        BitVec.ofInt 32 (limitLog (a.log.toInt - b.log.toInt))])

/-- LOG32_POW: zero stays zero; otherwise the sign is +1 and the logarithm is scaled, rounded down, saturated off the
sentinel (R78). -/
def Obligations.Log32Pow : Prop :=
  ∀ (s : State) (a : Log32 Word) (k : Word), s.config.valid = true → LegalSign a.sign →
    decode [0x55#32, a.sign, a.log, k] = .instr (.log32Pow a k) ∧
    Answers s (.log32Pow a k)
      (if a.sign = 0#32 then [0#32, 0x80000000#32]
       else [1#32, BitVec.ofInt 32 (limitLog (a.log.toInt * k.toInt / 65536))])

/-- LOG32_ADD (R77): a zero operand gives the other unchanged, two zeros the ring zero; like signs the larger logarithm
plus the table entry of the difference, the index clamped; unlike signs FROM_LOG32 of both, the sum, TO_LOG32. -/
def Obligations.Log32AddByCases : Prop :=
  ∀ (s : State) (a b : Log32 Word), s.config.valid = true → LegalSign a.sign → LegalSign b.sign →
    decode [0x54#32, a.sign, a.log, b.sign, b.log] = .instr (.log32Add a b) ∧
    (a.sign = 0#32 → b.sign = 0#32 → Answers s (.log32Add a b) [0#32, 0x80000000#32]) ∧
    (a.sign = 0#32 → b.sign ≠ 0#32 → Answers s (.log32Add a b) b.words) ∧
    (a.sign ≠ 0#32 → b.sign = 0#32 → Answers s (.log32Add a b) a.words) ∧
    (a.sign ≠ 0#32 → a.sign = b.sign →
      ∃ t : Int,
        s.config.lseRom[min ((a.log.toInt - b.log.toInt).natAbs / 2 ^ (s.config.lq - 5)) 255]? = some t ∧
        Answers s (.log32Add a b) [a.sign, BitVec.ofInt 32 (limitLog (max a.log.toInt b.log.toInt + t))]) ∧
    (a.sign ≠ 0#32 → b.sign ≠ 0#32 → a.sign ≠ b.sign →
      ∃ (x y : Word) (r : Log32 Word), Answers s (.fromLog32 a) [x] ∧ Answers s (.fromLog32 b) [y] ∧
        Answers s (.toLog32 (BitVec.ofInt 32 (limit32 (x.toInt + y.toInt)))) r.words ∧
        Answers s (.log32Add a b) r.words)

/-- The ring sum is commutative (R77). -/
def Obligations.Log32AddCommutes : Prop :=
  ∀ (s : State) (a b : Log32 Word), s.config.valid = true → LegalSign a.sign → LegalSign b.sign →
    ∃ r : Packet, Answers s (.log32Add a b) r ∧ Answers s (.log32Add b a) r

/-- LOG32_DIV undoes LOG32_MUL for non-zero operands whose product did not saturate, up to how a result is written: a
first operand whose log word is `INT32_MIN` comes back with `INT32_MIN + 1`, the least log word of a non-zero result (R72,
R75, R76). -/
def Obligations.Log32DivUndoesLog32Mul : Prop :=
  ∀ (s : State) (a b : Log32 Word), s.config.valid = true → LegalSign a.sign → LegalSign b.sign →
    a.sign ≠ 0#32 → b.sign ≠ 0#32 →
    -(2 ^ 31) < a.log.toInt + b.log.toInt → a.log.toInt + b.log.toInt < 2 ^ 31 →
    ∃ p : Log32 Word, Answers s (.log32Mul a b) p.words ∧
      Answers s (.log32Div p b) [a.sign, if a.log = 0x80000000#32 then 0x80000001#32 else a.log]

/-- How ring results are written (R72 (b)): the sign is -1, 0 or 1, and it is 0 exactly when the log word is the
sentinel. For LOG32_ADD this needs non-zero operands that do not carry the sentinel already (R77). -/
def Obligations.RingResultsAreWellFormed : Prop :=
  ∀ (s : State) (i : Instr) (r : Packet), Answers s i r →
    ((∃ v, i = .toLog32 v) ∨ (∃ a b, i = .log32Mul a b) ∨ (∃ a b, i = .log32Div a b) ∨ (∃ a k, i = .log32Pow a k) ∨
      ∃ a b, i = .log32Add a b ∧ (a.log = 0x80000000#32 → a.sign = 0#32) ∧ (b.log = 0x80000000#32 → b.sign = 0#32)) →
    ∃ sign log : Word, r = [sign, log] ∧ LegalSign sign ∧ (sign = 0#32 ↔ log = 0x80000000#32)
end

