-- ==== Sys2Proof/Laws/Arith.lean ====
section
/-! SUPPORT. What the exact arithmetic, the narrowing functions and the word formats do, said once each. -/

namespace Sys2Proof.Machine

open Sys2Proof

theorem asr_eq (z : Int) (n : Nat) : asr z n = z / 2 ^ n := rfl

theorem shl_eq (z : Int) (n : Nat) : shl z n = z * 2 ^ n := rfl

theorem clamp_bounds {z lo hi : Int} (h : lo ≤ hi) : lo ≤ clamp z lo hi ∧ clamp z lo hi ≤ hi := by
  unfold clamp; omega

theorem clamp_of_mem {z lo hi : Int} (h₁ : lo ≤ z) (h₂ : z ≤ hi) : clamp z lo hi = z := by
  unfold clamp; omega

theorem sat32_bounds (z : Int) : -2147483648 ≤ sat32 z ∧ sat32 z ≤ 2147483647 :=
  clamp_bounds (by decide)

theorem sat32_of_mem {z : Int} (h₁ : -2147483648 ≤ z) (h₂ : z ≤ 2147483647) : sat32 z = z :=
  clamp_of_mem h₁ h₂

theorem satlog_bounds (z : Int) : -2147483647 ≤ satlog z ∧ satlog z ≤ 2147483647 :=
  clamp_bounds (by decide)

theorem satlog_of_mem {z : Int} (h₁ : -2147483647 ≤ z) (h₂ : z ≤ 2147483647) : satlog z = z :=
  clamp_of_mem h₁ h₂

theorem satu32_bounds (z : Int) : 0 ≤ satu32 z ∧ satu32 z ≤ 4294967295 :=
  clamp_bounds (by decide)

theorem signedResult_bounds (neg : Bool) (m : Int) :
    -2147483648 ≤ signedResult neg m ∧ signedResult neg m ≤ 2147483647 := by
  cases neg <;> exact sat32_bounds _

/-- The quotient rounded toward zero is Lean's `Int.tdiv`. -/
theorem tdiv_eq (a b : Int) : tdiv a b = Int.tdiv a b := by
  unfold tdiv
  obtain ⟨m, rfl | rfl⟩ := Int.eq_nat_or_neg a <;> obtain ⟨n, rfl | rfl⟩ := Int.eq_nat_or_neg b <;>
    rcases Nat.eq_zero_or_pos m with rfl | hm <;> rcases Nat.eq_zero_or_pos n with rfl | hn <;>
    simp_all [Int.sign_natCast_of_ne_zero, Nat.pos_iff_ne_zero]

theorem s32_bounds (w : Word) : -2147483648 ≤ s32 w ∧ s32 w ≤ 2147483647 := by
  have h₁ := BitVec.le_toInt w
  have h₂ := BitVec.toInt_lt (x := w)
  unfold s32
  omega

theorem u32_lt (w : Word) : u32 w < 4294967296 := w.isLt

theorem ang_lt (w : Word) : ang w < 65536 := (w.extractLsb' 0 16).isLt

theorem ang_eq (w : Word) : ang w = w.toNat % 65536 := by
  simp [ang, BitVec.extractLsb'_toNat]

/-- Reading back a signed value that fits a word. -/
theorem s32_word {z : Int} (h₁ : -2147483648 ≤ z) (h₂ : z ≤ 2147483647) : s32 (word z) = z := by
  simp only [s32, word, BitVec.toInt_ofInt, Int.bmod_def]
  omega

/-- Reading back an unsigned value that fits a word. -/
theorem u32_word {z : Int} (h₁ : 0 ≤ z) (h₂ : z ≤ 4294967295) : (u32 (word z) : Int) = z := by
  simp only [u32, word, BitVec.toNat_ofInt]
  omega

@[simp] theorem word_s32 (w : Word) : word (s32 w) = w := by
  simp [word, s32]

@[simp] theorem s32_word_sat32 (z : Int) : s32 (word (sat32 z)) = sat32 z :=
  s32_word (sat32_bounds z).1 (sat32_bounds z).2

end Sys2Proof.Machine
end

