-- ==== Sys2Proof/Laws/Config.lean ====
section
/-! SUPPORT. What a valid configuration gives, clause by clause, and that the configurations written out are valid. -/

namespace Sys2Proof

/-- The legal parameters of a valid configuration (R4 to R6). -/
structure Config.Params (c : Config) : Prop where
  lq : 8 ≤ c.lq ∧ c.lq ≤ 16
  eq : 8 ≤ c.eq ∧ c.eq ≤ 16
  sinBits : 2 ≤ c.sinBits ∧ c.sinBits ≤ 16
  atanBits : 1 ≤ c.atanBits ∧ c.atanBits ≤ 16
  acosBits : 1 ≤ c.acosBits ∧ c.acosBits ≤ 16

theorem inRange_iff {lo hi n : Nat} : inRange lo hi n = true ↔ lo ≤ n ∧ n ≤ hi := by
  simp [inRange]

theorem entryIn_iff {lo hi : Nat} {e : Int} : entryIn lo hi e = true ↔ (lo : Int) ≤ e ∧ e ≤ (hi : Int) := by
  cases e <;> (simp [entryIn]; try omega)

theorem entriesIn_iff {lo hi : Nat} {t : List Int} :
    entriesIn lo hi t = true ↔ ∀ e ∈ t, (lo : Int) ≤ e ∧ e ≤ (hi : Int) := by
  simp [entriesIn, entryIn_iff]

theorem entriesWithin_iff {b : Nat} {t : List Int} :
    entriesWithin b t = true ↔ ∀ e ∈ t, -(b : Int) ≤ e ∧ e ≤ (b : Int) := by
  simp only [entriesWithin, List.all_eq_true, Nat.ble_eq]
  exact forall₂_congr fun e _ => by omega

/-- The clauses of validity, one by one (R9). -/
theorem Config.valid_iff (c : Config) :
    c.valid = true ↔
      c.paramsLegal = true ∧ c.msb8Legal = true ∧ c.log2Legal = true ∧ c.exp2Legal = true ∧ c.sinLegal = true ∧
        c.cosLegal = true ∧ c.atanLegal = true ∧ c.acosLegal = true ∧ c.lseLegal = true := by
  simp [Config.valid]

theorem Config.params_of_valid {c : Config} (h : c.valid = true) : c.Params := by
  have hp := ((Config.valid_iff c).1 h).1
  simp only [Config.paramsLegal, Bool.and_eq_true, inRange_iff] at hp
  exact ⟨hp.1, hp.2.1, hp.2.2.1, hp.2.2.2.1, hp.2.2.2.2⟩

/-- A read inside a table of which every entry has a property has that property. -/
theorem Machine.tableRead_of_forall {P : Int → Prop} {t : List Int} {i : Nat} (hi : i < t.length)
    (h : ∀ e ∈ t, P e) : P (Machine.tableRead t i) := by
  rw [Machine.tableRead, List.getD_eq_getElem _ _ hi]
  exact h _ (List.getElem_mem hi)

theorem Config.sin_entry {c : Config} (h : c.valid = true) {i : Nat} (hi : i < 2 ^ c.sinBits) :
    -65536 ≤ Machine.tableRead c.sinRom i ∧ Machine.tableRead c.sinRom i ≤ 65536 := by
  have hs := ((Config.valid_iff c).1 h).2.2.2.2.1
  simp only [Config.sinLegal, Bool.and_eq_true, decide_eq_true_eq, entriesWithin_iff] at hs
  exact Machine.tableRead_of_forall (hs.1 ▸ hi) hs.2

theorem Config.cos_entry {c : Config} (h : c.valid = true) {i : Nat} (hi : i < 2 ^ c.sinBits) :
    -65536 ≤ Machine.tableRead c.cosRom i ∧ Machine.tableRead c.cosRom i ≤ 65536 := by
  have hs := ((Config.valid_iff c).1 h).2.2.2.2.2.1
  simp only [Config.cosLegal, Bool.and_eq_true, decide_eq_true_eq, entriesWithin_iff] at hs
  exact Machine.tableRead_of_forall (hs.1 ▸ hi) hs.2

theorem Config.atan_entry {c : Config} (h : c.valid = true) {i : Nat} (hi : i < 2 ^ c.atanBits) :
    0 ≤ Machine.tableRead c.atanRom i ∧ Machine.tableRead c.atanRom i ≤ 8192 := by
  have hs := ((Config.valid_iff c).1 h).2.2.2.2.2.2.1
  simp only [Config.atanLegal, Bool.and_eq_true, decide_eq_true_eq, entriesIn_iff] at hs
  exact Machine.tableRead_of_forall (hs.1 ▸ hi) hs.2

theorem Config.acos_entry {c : Config} (h : c.valid = true) {i : Nat} (hi : i < 2 ^ c.acosBits) :
    0 ≤ Machine.tableRead c.acosRom i ∧ Machine.tableRead c.acosRom i ≤ 16384 := by
  have hs := ((Config.valid_iff c).1 h).2.2.2.2.2.2.2.1
  simp only [Config.acosLegal, Bool.and_eq_true, decide_eq_true_eq, entriesIn_iff] at hs
  exact Machine.tableRead_of_forall (hs.1 ▸ hi) hs.2

theorem Config.lse_entry {c : Config} (h : c.valid = true) {i : Nat} (hi : i < 256) :
    0 ≤ Machine.tableRead c.lseRom i ∧ Machine.tableRead c.lseRom i ≤ 2 ^ c.lq := by
  have hs := ((Config.valid_iff c).1 h).2.2.2.2.2.2.2.2
  simp only [Config.lseLegal, Bool.and_eq_true, decide_eq_true_eq, entriesIn_iff] at hs
  exact_mod_cast Machine.tableRead_of_forall (hs.1 ▸ hi) hs.2

theorem Config.exp2_entry {c : Config} (h : c.valid = true) {i : Nat} (hi : i < 256) :
    2 ^ c.eq ≤ Machine.tableRead c.exp2Rom i ∧ Machine.tableRead c.exp2Rom i < 2 ^ (c.eq + 1) := by
  have hs := ((Config.valid_iff c).1 h).2.2.2.1
  simp only [Config.exp2Legal, Bool.and_eq_true, decide_eq_true_eq, entriesIn_iff] at hs
  have he := Machine.tableRead_of_forall (hs.1 ▸ hi) hs.2
  have hp : 1 ≤ 2 ^ (c.eq + 1) := Nat.one_le_two_pow
  push_cast [Nat.cast_sub hp] at he
  exact ⟨he.1, by omega⟩

theorem Config.log2_entry {c : Config} (h : c.valid = true) {m : Nat} (h₁ : 128 ≤ m) (h₂ : m < 256) :
    0 ≤ Machine.tableRead c.log2Rom m ∧ Machine.tableRead c.log2Rom m < 2 ^ (c.lq + 4) := by
  have hs := ((Config.valid_iff c).1 h).2.2.1
  simp only [Config.log2Legal, Bool.and_eq_true, decide_eq_true_eq, entriesIn_iff] at hs
  have hl : m - 128 < (c.log2Rom.drop 128).length := by
    rw [List.length_drop, hs.1]; omega
  have he := Machine.tableRead_of_forall hl hs.2
  have hp : 1 ≤ 2 ^ (c.lq + 4) := Nat.one_le_two_pow
  rw [Machine.tableRead, List.getD_eq_getElem?_getD, List.getElem?_drop, Nat.add_sub_cancel' h₁] at he
  push_cast [Nat.cast_sub hp] at he
  rw [Machine.tableRead, List.getD_eq_getElem?_getD]
  exact ⟨he.1, by omega⟩

/-- The reference configuration is valid (R93). -/
theorem Config.reference_valid : Config.reference.valid = true := by
  decide +kernel

/-- The alternative configuration at `LQ = EQ = 16` is valid. -/
theorem Config.wide_valid : Config.wide.valid = true := by
  decide +kernel

/-- `LOG_INTERP` plays no part in validity. -/
theorem Config.interpolating_valid : Config.interpolating.valid = true := by
  decide +kernel

end Sys2Proof
end

