-- ==== Sys2Proof/Laws/State.lean ====
section
/-! SUPPORT. The fields of the state after each update of it. -/

namespace Sys2Proof.Machine

open Sys2Proof

variable (s : State) (r : Packet) (cut : Packet) (nbits w : Nat) (c : Config)

@[simp] theorem State.answer_config : (s.answer r).config = s.config := rfl
@[simp] theorem State.answer_inputs : (s.answer r).inputs = s.inputs := rfl
@[simp] theorem State.answer_responses : (s.answer r).responses = s.responses ++ [r] := rfl

@[simp] theorem State.resetInput_config : (s.resetInput cut).config = s.config := rfl
@[simp] theorem State.resetInput_inputs : (s.resetInput cut).inputs = s.inputs := rfl
@[simp] theorem State.resetInput_responses : (s.resetInput cut).responses = s.responses := rfl

@[simp] theorem State.withFetchWord_config : (s.withFetchWord nbits w).config = s.config := rfl
@[simp] theorem State.withFetchWord_inputs :
    (s.withFetchWord nbits w).inputs = .request (tablePacket nbits w) :: s.inputs := rfl
@[simp] theorem State.withFetchWord_responses : (s.withFetchWord nbits w).responses = s.responses := rfl

@[simp] theorem State.initial_config : (State.initial c).config = c := rfl
@[simp] theorem State.initial_inputs : (State.initial c).inputs = [] := rfl
@[simp] theorem State.initial_responses : (State.initial c).responses = [] := rfl

@[simp] theorem State.reset_config : State.reset.config = Config.reference := rfl
@[simp] theorem State.reset_inputs : State.reset.inputs = [] := rfl
@[simp] theorem State.reset_responses : State.reset.responses = [] := rfl

end Sys2Proof.Machine
end

