-- ==== Sys2Proof/Laws/Ops.lean ====
section
/-! SUPPORT. What the shared operations can do, said once each. -/

namespace Sys2Proof.Machine

open Sys2Proof

theorem State.respond_of_valid {s : State} (h : s.config.valid = true) (f : Config → Packet) :
    s.respond f = .next (s.answer (f s.config)) := by
  simp [State.respond, h]

theorem State.respond_of_invalid {s : State} (h : s.config.valid = false) (f : Config → Packet) :
    s.respond f = .refused .invalidConfiguration := by
  simp [State.respond, h]

/-- Everything a transaction can do when it answers a next state. -/
theorem State.respond_next {s t : State} {f : Config → Packet} (h : s.respond f = .next t) :
    s.config.valid = true ∧ t = s.answer (f s.config) := by
  unfold State.respond at h
  split at h
  · rename_i hv
    cases h
    exact ⟨hv, rfl⟩
  · cases h

theorem log32In_of_legal {a : Log32 Word} (h : a.legal = true) : log32In a = some ⟨s32 a.sign, s32 a.log⟩ := by
  simp [log32In, h]

theorem log32In_of_illegal {a : Log32 Word} (h : a.legal = false) : log32In a = none := by
  simp [log32In, h]

/-- A legal sign word reads as -1, 0 or 1 (R33). -/
theorem sign_of_legal {a : Log32 Word} (h : a.legal = true) : s32 a.sign = -1 ∨ s32 a.sign = 0 ∨ s32 a.sign = 1 := by
  simp only [Log32.legal, ringSignLegal, Bool.or_eq_true, beq_iff_eq] at h
  rcases h with (h | h) | h <;> rw [h] <;> decide

theorem State.respondRing_of_legal {s : State} {a : Log32 Word} (h : a.legal = true)
    (f : Config → Log32 Int → Packet) :
    s.respondRing a f = s.respond fun c => f c ⟨s32 a.sign, s32 a.log⟩ := by
  simp [State.respondRing, log32In_of_legal h]

theorem State.respondRing_of_illegal {s : State} {a : Log32 Word} (h : a.legal = false)
    (f : Config → Log32 Int → Packet) : s.respondRing a f = .refused (.illegalRequest .ringSign) := by
  simp [State.respondRing, log32In_of_illegal h]

theorem State.respondRing2_of_legal {s : State} {a b : Log32 Word} (ha : a.legal = true) (hb : b.legal = true)
    (f : Config → Log32 Int → Log32 Int → Packet) :
    s.respondRing2 a b f = s.respond fun c => f c ⟨s32 a.sign, s32 a.log⟩ ⟨s32 b.sign, s32 b.log⟩ := by
  simp [State.respondRing2, log32In_of_legal ha, log32In_of_legal hb]

theorem State.respondRing2_of_illegal {s : State} {a b : Log32 Word} (h : (a.legal && b.legal) = false)
    (f : Config → Log32 Int → Log32 Int → Packet) :
    s.respondRing2 a b f = .refused (.illegalRequest .ringSign) := by
  unfold State.respondRing2
  rcases Bool.and_eq_false_iff.1 h with h | h
  · rw [log32In_of_illegal h]
  · rw [log32In_of_illegal h]
    cases log32In a <;> rfl

end Sys2Proof.Machine
end

