-- ==== Sys2Proof/Laws/Exec.lean ====
section
/-! SUPPORT. What `exec` can do, said once for all operations: it answers the response of the instruction, or it refuses
a LOG32 sign word that is not legal, or an invalid configuration. -/

namespace Sys2Proof.Machine

open Sys2Proof

/-- A LOG32 operand as two integers, its sign word not looked at. -/
def log32Read (a : Log32 Word) : Log32 Int :=
  ⟨s32 a.sign, s32 a.log⟩

/-- The response of each operation, as a function of the configuration and the operand words alone (R1). -/
def response (c : Config) : Instr → Packet
  | .bitscan v => scalarOut (bitscan c (u32 v))
  | .log2 v => scalarOut (log2Fixed c (u32 v))
  | .exp2 y => scalarOut (exp2z c (s32 y))
  | .mulApprox a b => scalarOut (mulApprox c (u32 a) (u32 b))
  | .divApprox n d => scalarOut (divApprox c (u32 n) (u32 d))
  | .powApprox a k => scalarOut (powApprox c (u32 a) (s32 k))
  | .mulExact a b => scalarOut (mulExact (s32 a) (s32 b))
  | .divExact n d => scalarOut (divExact (s32 n) (s32 d))
  | .qmulApprox a b => scalarOut (qmulApprox c (s32 a) (s32 b))
  | .qdivApprox n d => scalarOut (qdivApprox c (s32 n) (s32 d))
  | .sqrt x => scalarOut (qSqrt c (s32 x))
  | .inverseSqrt x => scalarOut (qInverseSqrt c (s32 x))
  | .lerp a b t => scalarOut (lerp (s32 a) (s32 b) (s32 t))
  | .sin angle => scalarOut (tSin c (ang angle))
  | .cos angle => scalarOut (tCos c (ang angle))
  | .atan2 y x => scalarOut (tAtan2 c (s32 y) (s32 x))
  | .acos x => scalarOut (tAcos c (s32 x))
  | .vec3Add a b => vec3Out (v3add (vec3In a) (vec3In b))
  | .vec3Sub a b => vec3Out (v3sub (vec3In a) (vec3In b))
  | .vec3Dot a b => scalarOut (v3dot (vec3In a) (vec3In b))
  | .vec3Cross a b => vec3Out (v3cross (vec3In a) (vec3In b))
  | .vec3Length v => scalarOut (v3len c (vec3In v))
  | .vec3Normalize v => vec3Out (v3norm c (vec3In v))
  | .mat3Mul a b => mat3Out (m3mul (mat3In a) (mat3In b))
  | .mat3MulVec3 a v => vec3Out (m3mulv (mat3In a) (vec3In v))
  | .mat3RotationEuler ax ay az => mat3Out (m3euler c (ang ax) (ang ay) (ang az))
  | .quatFromAxisAngle axis angle => quatOut (quatAxisAngle c (vec3In axis) (ang angle))
  | .quatRotateVec q v => vec3Out (quatRotate (quatIn q) (vec3In v))
  | .quatNormalize q => quatOut (quatNorm c (quatIn q))
  | .projectPerspective v focal => vec3Out (project (vec3In v) (s32 focal))
  | .pipelineMvp v scale ax ay az t focal =>
    vec3Out (pipelineMvp c (vec3In v) (s32 scale) (ang ax) (ang ay) (ang az) (vec3In t) (s32 focal))
  | .pipelineMvpFused v scale ax ay az t focal =>
    vec3Out (pipelineMvpFused c (vec3In v) (s32 scale) (ang ax) (ang ay) (ang az) (vec3In t) (s32 focal))
  | .toLog32 v => log32Out (toLog32 c (s32 v))
  | .fromLog32 a => scalarOut (fromLog32 c (log32Read a))
  | .log32Mul a b => log32Out (log32Mul (log32Read a) (log32Read b))
  | .log32Div a b => log32Out (log32Div (log32Read a) (log32Read b))
  | .log32Add a b => log32Out (log32Add c (log32Read a) (log32Read b))
  | .log32Pow a k => log32Out (log32Pow (log32Read a) (s32 k))

/-- Everything `exec` can do with a well-formed instruction. -/
theorem exec_of_wellFormed {i : Instr} (h : i.wellFormed = true) (s : State) :
    exec i s = s.respond fun c => response c i := by
  cases i
  case fromLog32 a => exact State.respondRing_of_legal h _
  case log32Pow a k => exact State.respondRing_of_legal h _
  case log32Mul a b => exact State.respondRing2_of_legal (Bool.and_eq_true_iff.1 h).1 (Bool.and_eq_true_iff.1 h).2 _
  case log32Div a b => exact State.respondRing2_of_legal (Bool.and_eq_true_iff.1 h).1 (Bool.and_eq_true_iff.1 h).2 _
  case log32Add a b => exact State.respondRing2_of_legal (Bool.and_eq_true_iff.1 h).1 (Bool.and_eq_true_iff.1 h).2 _
  all_goals rfl

/-- Everything `exec` can do with an ill-formed one: it refuses the sign word (R34 (d)). -/
theorem exec_of_illFormed {i : Instr} (h : i.wellFormed = false) (s : State) :
    exec i s = .refused (.illegalRequest .ringSign) := by
  cases i
  case fromLog32 a => exact State.respondRing_of_illegal h _
  case log32Pow a k => exact State.respondRing_of_illegal h _
  case log32Mul a b => exact State.respondRing2_of_illegal h _
  case log32Div a b => exact State.respondRing2_of_illegal h _
  case log32Add a b => exact State.respondRing2_of_illegal h _
  all_goals cases h

/-- Everything `exec` has done when it answers a next state. -/
theorem exec_next {i : Instr} {s t : State} (h : exec i s = .next t) :
    i.wellFormed = true ∧ s.config.valid = true ∧ t = s.answer (response s.config i) := by
  cases hw : i.wellFormed with
  | true =>
    rw [exec_of_wellFormed hw] at h
    exact ⟨rfl, State.respond_next h⟩
  | false =>
    rw [exec_of_illFormed hw] at h
    cases h

/-- The response of an operation has the number of words R31 gives it. -/
theorem response_length (c : Config) (i : Instr) : (response c i).length = i.op.nres := by
  cases i <;> rfl

end Sys2Proof.Machine
end

