-- ==== Sys2Proof/Laws/LogDomain.lean ====
section
/-! SUPPORT. What the helpers of layers 1 and 2 can do on a valid configuration: the bit scan, the logarithm and the
exponential that every higher layer is built on (R3). -/

namespace Sys2Proof.Machine

open Sys2Proof

theorem msb8Entries_getD : ∀ b < 255, msb8Entries.getD b 0 = (Nat.log2 (b + 1) : Int) := by
  decide +kernel

/-- An entry of `MSB8` other than entry 0 is the index of the highest set bit (R16). -/
theorem tableRead_msb8 {c : Config} (h : c.valid = true) {b : Nat} (h₁ : 1 ≤ b) (h₂ : b ≤ 255) :
    tableRead c.msb8 b = (Nat.log2 b : Int) := by
  have hm := ((Config.valid_iff c).1 h).2.1
  simp only [Config.msb8Legal, Bool.and_eq_true, decide_eq_true_eq] at hm
  have hd : (c.msb8.drop 1).getD (b - 1) 0 = tableRead c.msb8 b := by
    rw [tableRead, List.getD_eq_getElem?_getD, List.getD_eq_getElem?_getD, List.getElem?_drop,
      Nat.add_sub_cancel' h₁]
  rw [← hd, hm.2, msb8Entries_getD _ (by omega), Nat.sub_add_cancel h₁]

theorem two_pow_log2_bounds {b : Nat} (h : b ≠ 0) : 2 ^ Nat.log2 b ≤ b ∧ b < 2 * 2 ^ Nat.log2 b := by
  have h₁ := Nat.log2_self_le h
  have h₂ := @Nat.lt_log2_self b
  rw [Nat.pow_succ] at h₂
  omega

/-- Scanning the byte that starts at bit `k`: the index of the highest set bit is `k` more than that of the byte. -/
theorem log2_of_byte {v b : Nat} (k : Nat) (hb : b ≠ 0) (h₁ : 2 ^ k * b ≤ v) (h₂ : v < 2 ^ k * (b + 1)) :
    Nat.log2 v = k + Nat.log2 b := by
  have hk : 0 < 2 ^ k := Nat.two_pow_pos k
  obtain ⟨hl, hu⟩ := two_pow_log2_bounds hb
  have hv : v ≠ 0 := by
    have := Nat.mul_pos hk (Nat.pos_of_ne_zero hb)
    omega
  refine (Nat.log2_eq_iff hv).2 ⟨?_, ?_⟩
  · calc 2 ^ (k + Nat.log2 b) = 2 ^ k * 2 ^ Nat.log2 b := Nat.pow_add ..
      _ ≤ 2 ^ k * b := Nat.mul_le_mul_left _ hl
      _ ≤ v := h₁
  · calc v < 2 ^ k * (b + 1) := h₂
      _ ≤ 2 ^ k * (2 * 2 ^ Nat.log2 b) := Nat.mul_le_mul_left _ (by omega)
      _ = 2 ^ (k + Nat.log2 b + 1) := by rw [Nat.pow_succ, Nat.pow_add]; ac_rfl

/-- The byte scan is the index of the highest set bit, or -1 (R35). -/
theorem bitscan_eq {c : Config} (h : c.valid = true) {v : Nat} (hv : v < 2 ^ 32) :
    bitscan c v = if v = 0 then -1 else (Nat.log2 v : Int) := by
  have e24 : (2 : Nat) ^ 24 = 16777216 := by decide
  have e16 : (2 : Nat) ^ 16 = 65536 := by decide
  have e8 : (2 : Nat) ^ 8 = 256 := by decide
  have e32 : (2 : Nat) ^ 32 = 4294967296 := by decide
  rw [e32] at hv
  simp only [bitscan, e24, e16, e8]
  by_cases h0 : v = 0
  · subst h0; rfl
  rw [if_neg h0]
  by_cases h3 : v / 16777216 % 256 = 0
  · rw [if_neg (not_not.2 h3)]
    by_cases h2 : v / 65536 % 256 = 0
    · rw [if_neg (not_not.2 h2)]
      by_cases h1 : v / 256 % 256 = 0
      · rw [if_neg (not_not.2 h1), if_pos (show v % 256 ≠ 0 by omega), tableRead_msb8 h (by omega) (by omega),
          Nat.mod_eq_of_lt (show v < 256 by omega), zero_add]
      · have hl := log2_of_byte (v := v) 8 h1 (by rw [e8]; omega) (by rw [e8]; omega)
        rw [if_pos h1, tableRead_msb8 h (by omega) (by omega), hl]; push_cast; rfl
    · have hl := log2_of_byte (v := v) 16 h2 (by rw [e16]; omega) (by rw [e16]; omega)
      rw [if_pos h2, tableRead_msb8 h (by omega) (by omega), hl]; push_cast; rfl
  · have hl := log2_of_byte (v := v) 24 h3 (by rw [e24]; omega) (by rw [e24]; omega)
    rw [if_pos h3, tableRead_msb8 h (by omega) (by omega), hl]; push_cast; rfl

theorem log2_lt_32 {v : Nat} (h₀ : v ≠ 0) (hv : v < 2 ^ 32) : Nat.log2 v < 32 :=
  (Nat.log2_lt h₀).2 hv

/-- The mantissa of R36 in closed form, and its range. -/
theorem mantissa_eq {v : Nat} (h₀ : v ≠ 0) :
    mantissa (Nat.log2 v : Int) v = v * 128 / 2 ^ Nat.log2 v ∧
      128 ≤ mantissa (Nat.log2 v : Int) v ∧ mantissa (Nat.log2 v : Int) v < 256 := by
  obtain ⟨hl, hu⟩ := two_pow_log2_bounds h₀
  generalize he : Nat.log2 v = e at *
  have hpos : 0 < 2 ^ e := Nat.two_pow_pos e
  have hr : v * 128 / 2 ^ e < 256 ∧ 128 ≤ v * 128 / 2 ^ e :=
    ⟨(Nat.div_lt_iff_lt_mul hpos).2 (by omega), (Nat.le_div_iff_mul_le hpos).2 (by omega)⟩
  have heq : mantissa (e : Int) v = v * 128 / 2 ^ e := by
    unfold mantissa
    split_ifs with h7
    · have hn : ((e : Int) - 7).toNat = e - 7 := by omega
      have hp : 2 ^ e = 2 ^ (e - 7) * 128 := by
        rw [show (128 : Nat) = 2 ^ 7 from rfl, ← Nat.pow_add]; congr 1; omega
      rw [hn, hp, Nat.mul_div_mul_right _ _ (by decide)]
    · have hn : (7 - (e : Int)).toNat = 7 - e := by omega
      have hp : 128 = 2 ^ (7 - e) * 2 ^ e := by
        rw [show (128 : Nat) = 2 ^ 7 from rfl, ← Nat.pow_add]; congr 1; omega
      rw [hn]
      conv_rhs => rw [hp]
      rw [← Nat.mul_assoc, Nat.mul_div_cancel _ hpos]
  exact ⟨heq, heq ▸ hr.2, heq ▸ hr.1⟩

/-- Floor of a fraction of a difference lies between 0 and the difference. -/
theorem asr_mul_bounds {d : Int} {r n : Nat} (hr : r < 2 ^ n) :
    min 0 d ≤ asr (d * r) n ∧ asr (d * r) n ≤ max 0 d := by
  have hp : (0 : Int) < 2 ^ n := by positivity
  have hr' : (r : Int) < 2 ^ n := by exact_mod_cast hr
  have hr0 : (0 : Int) ≤ r := Int.natCast_nonneg r
  unfold asr
  constructor
  · rw [Int.le_ediv_iff_mul_le hp]
    rcases le_total 0 d with hd | hd
    · rw [min_eq_left hd]; nlinarith
    · rw [min_eq_right hd]; nlinarith
  · rw [Int.ediv_le_iff_le_mul hp]
    rcases le_total 0 d with hd | hd
    · rw [max_eq_right hd]; nlinarith
    · rw [max_eq_left hd]; nlinarith

/-- Floor of a fraction of a positive difference is below the difference. -/
theorem asr_mul_lt {d : Int} {r n : Nat} (hd : 0 < d) (hr : r < 2 ^ n) : asr (d * r) n < d := by
  have hr' : (r : Int) < 2 ^ n := by exact_mod_cast hr
  exact Int.ediv_lt_of_lt_mul (by positivity) (mul_lt_mul_of_pos_left hr' hd)

/-- The logarithm with `LOG_INTERP = 0` in closed form (R36). -/
theorem log2Plain_eq {c : Config} (h : c.valid = true) {v : Nat} (h₀ : v ≠ 0) (hv : v < 2 ^ 32) :
    log2Plain c v =
      ((Nat.log2 v : Int) - 7) * 2 ^ c.lq + tableRead c.log2Rom (v * 128 / 2 ^ Nat.log2 v) := by
  simp only [log2Plain, bitscan_eq h hv, if_neg h₀, (mantissa_eq h₀).1]

/-- The next entry of the logarithm's line is non-negative and at most one octave above the range of the table. -/
theorem log2Next_bounds {c : Config} (h : c.valid = true) {m : Nat} (h₁ : 128 ≤ m) (h₂ : m < 256) :
    0 ≤ log2Next c m ∧ log2Next c m < 17 * 2 ^ c.lq := by
  have hp : (0 : Int) < 2 ^ c.lq := by positivity
  have e4 : (2 : Int) ^ (c.lq + 4) = 16 * 2 ^ c.lq := by ring
  unfold log2Next
  split_ifs with hm
  · have := Config.log2_entry h (m := 128) (by decide) (by decide)
    omega
  · have := Config.log2_entry h (m := m + 1) (by omega) (by omega)
    omega

/-- The logarithm of a non-zero magnitude stays far inside a word (R36), for both values of `LOG_INTERP`. -/
theorem log2Fixed_bounds {c : Config} (h : c.valid = true) {v : Nat} (h₀ : v ≠ 0) (hv : v < 2 ^ 32) :
    -(7 * 2 ^ c.lq) ≤ log2Fixed c v ∧ log2Fixed c v < 41 * 2 ^ c.lq := by
  have hp : (0 : Int) < 2 ^ c.lq := by positivity
  have e4 : (2 : Int) ^ (c.lq + 4) = 16 * 2 ^ c.lq := by ring
  obtain ⟨-, hm₁, hm₂⟩ := mantissa_eq h₀
  have he := log2_lt_32 h₀ hv
  have hlo : -(7 * 2 ^ c.lq) ≤ ((Nat.log2 v : Int) - 7) * 2 ^ c.lq := by nlinarith
  have hhi : ((Nat.log2 v : Int) - 7) * 2 ^ c.lq ≤ 24 * 2 ^ c.lq :=
    Int.mul_le_mul_of_nonneg_right (by omega) hp.le
  have ht := Config.log2_entry h hm₁ hm₂
  unfold log2Fixed
  rw [if_neg h₀]
  split_ifs
  · unfold log2Interp
    simp only [bitscan_eq h hv, if_neg h₀]
    split_ifs with h7
    · omega
    · have hm : v / 2 ^ ((Nat.log2 v : Int) - 7).toNat = mantissa (Nat.log2 v : Int) v := by
        unfold mantissa; rw [if_pos (by omega)]
      rw [hm]
      have hn := log2Next_bounds h hm₁ hm₂
      have hr := asr_mul_bounds (d := log2Next c (mantissa (Nat.log2 v : Int) v)
        - tableRead c.log2Rom (mantissa (Nat.log2 v : Int) v))
        (Nat.mod_lt v (Nat.two_pow_pos ((Nat.log2 v : Int) - 7).toNat))
      omega
  · simp only [log2Plain, bitscan_eq h hv, if_neg h₀]
    omega

/-- Two words' worth of room: what the rules add to or subtract from logarithms still fits a word (R42, R48, R71). -/
theorem two_pow_lq_le {c : Config} (h : c.valid = true) : (256 : Int) ≤ 2 ^ c.lq ∧ (2 : Int) ^ c.lq ≤ 65536 := by
  obtain ⟨h₁, h₂⟩ := (Config.params_of_valid h).lq
  exact ⟨by exact_mod_cast Nat.pow_le_pow_right (n := 2) (by decide) h₁,
    by exact_mod_cast Nat.pow_le_pow_right (n := 2) (by decide) h₂⟩

/-- The top 8 bits of a fraction are an index of `EXP2_ROM` (R24, R38). -/
theorem exp2_index_lt {c : Config} (h : c.valid = true) {f : Nat} (hf : f < 2 ^ c.lq) : f / 2 ^ (c.lq - 8) < 256 := by
  have hlq := (Config.params_of_valid h).lq
  rw [Nat.div_lt_iff_lt_mul (Nat.two_pow_pos _)]
  calc f < 2 ^ c.lq := hf
    _ = 256 * 2 ^ (c.lq - 8) := by
      rw [show (256 : Nat) = 2 ^ 8 from rfl, ← Nat.pow_add]; congr 1; omega

/-- The scaled power of a fraction is at least `2^EQ` (R19, R38, R39). -/
theorem exp2Fraction_ge {c : Config} (h : c.valid = true) {f : Nat} (hf : f < 2 ^ c.lq) :
    2 ^ c.eq ≤ exp2Fraction c f := by
  have hidx := exp2_index_lt h hf
  have ht := Config.exp2_entry h hidx
  simp only [exp2Fraction]
  split_ifs
  · have hn : 2 ^ c.eq ≤ exp2Next c (f / 2 ^ (c.lq - 8)) := by
      unfold exp2Next
      split_ifs
      · have := Config.exp2_entry h (i := 0) (by decide)
        have hp : (0 : Int) < 2 ^ c.eq := by positivity
        omega
      · exact (Config.exp2_entry h (by omega)).1
    have hr := asr_mul_bounds (d := exp2Next c (f / 2 ^ (c.lq - 8)) - tableRead c.exp2Rom (f / 2 ^ (c.lq - 8)))
      (Nat.mod_lt f (Nat.two_pow_pos (c.lq - 8)))
    omega
  · exact ht.1

/-- The next point of the exponential's line is at most `2^(EQ+1)`, when the table's first entry is exact (R19, R39). -/
theorem exp2Next_le {c : Config} (h : c.valid = true) (h₀ : c.exp2Rom[0]? = some (2 ^ c.eq)) {idx : Nat}
    (hi : idx < 256) : exp2Next c idx ≤ 2 ^ (c.eq + 1) := by
  unfold exp2Next
  split_ifs
  · rw [tableRead, List.getD_eq_getElem?_getD, h₀, Option.getD_some]
    exact le_of_eq (by ring)
  · exact (Config.exp2_entry h (by omega)).2.le

/-- The scaled power of a fraction is below `2^(EQ+1)`: always without interpolation, and with it when there are no
fraction bits left or the table's first entry is exact (R38, R39). -/
theorem exp2Fraction_lt {c : Config} (h : c.valid = true)
    (h₀ : c.logInterp = true → c.lq ≠ 8 → c.exp2Rom[0]? = some (2 ^ c.eq)) {f : Nat} (hf : f < 2 ^ c.lq) :
    exp2Fraction c f < 2 ^ (c.eq + 1) := by
  have hlq := (Config.params_of_valid h).lq
  have hidx := exp2_index_lt h hf
  have ht := Config.exp2_entry h hidx
  simp only [exp2Fraction]
  split_ifs with hi
  · simp only [Bool.and_eq_true, decide_eq_true_eq] at hi
    have hn := exp2Next_le h (h₀ hi.1 (by omega)) hidx
    have hg := Nat.mod_lt f (Nat.two_pow_pos (c.lq - 8))
    rcases le_or_gt (exp2Next c (f / 2 ^ (c.lq - 8)) - tableRead c.exp2Rom (f / 2 ^ (c.lq - 8))) 0 with hd | hd
    · have := (asr_mul_bounds (d := exp2Next c (f / 2 ^ (c.lq - 8)) - tableRead c.exp2Rom (f / 2 ^ (c.lq - 8))) hg).2
      omega
    · have := asr_mul_lt hd hg
      omega
  · exact ht.2

/-- Everything the exponential can answer: a magnitude of 32 bits (R38, R39). -/
theorem exp2z_bounds {c : Config} (h : c.valid = true) (y : Int) : 0 ≤ exp2z c y ∧ exp2z c y ≤ 4294967295 := by
  have hp : (0 : Int) < 2 ^ c.lq := by positivity
  have hf : (y - asr y c.lq * 2 ^ c.lq).toNat < 2 ^ c.lq := by
    have h₁ := Int.emod_lt_of_pos y hp
    have h₂ := Int.emod_nonneg y hp.ne'
    have h₃ := Int.mul_ediv_add_emod y (2 ^ c.lq)
    have : y - asr y c.lq * 2 ^ c.lq = y % 2 ^ c.lq := by unfold asr; linarith [mul_comm (y / 2 ^ c.lq) (2 ^ c.lq : Int)]
    rw [this]
    zify [Int.toNat_of_nonneg h₂]
    omega
  have ht : 0 ≤ exp2Fraction c (y - asr y c.lq * 2 ^ c.lq).toNat :=
    le_trans (by positivity) (exp2Fraction_ge h hf)
  refine ⟨le_min ?_ (by decide), min_le_right _ _⟩
  split_ifs
  · positivity
  · exact Int.ediv_nonneg ht (by positivity)

end Sys2Proof.Machine
end

