-- ==== Sys2Proof/Laws/PerInstr.lean ====
section
/-! SUPPORT. Facts about every instruction as syntax, one lemma per constructor. -/

namespace Sys2Proof.Laws.EncodedShape

open Sys2Proof

/-- The packet of an instruction has `1 + NOPND` words, the first being the header of its operation, whose low byte is
the select code and whose other bits are zero (R29, R31). -/
def Statement (i : Instr) : Prop :=
  (encode i).length = 1 + i.op.nopnd ∧ (encode i).head? = some i.op.header ∧ i.op.header.toNat = i.op.code

theorem bitscan (v : Word) : Statement (.bitscan v) := ⟨rfl, rfl, rfl⟩

theorem log2 (v : Word) : Statement (.log2 v) := ⟨rfl, rfl, rfl⟩

theorem exp2 (y : Word) : Statement (.exp2 y) := ⟨rfl, rfl, rfl⟩

theorem mulApprox (a b : Word) : Statement (.mulApprox a b) := ⟨rfl, rfl, rfl⟩

theorem divApprox (n d : Word) : Statement (.divApprox n d) := ⟨rfl, rfl, rfl⟩

theorem powApprox (a k : Word) : Statement (.powApprox a k) := ⟨rfl, rfl, rfl⟩

theorem mulExact (a b : Word) : Statement (.mulExact a b) := ⟨rfl, rfl, rfl⟩

theorem divExact (n d : Word) : Statement (.divExact n d) := ⟨rfl, rfl, rfl⟩

theorem qmulApprox (a b : Word) : Statement (.qmulApprox a b) := ⟨rfl, rfl, rfl⟩

theorem qdivApprox (n d : Word) : Statement (.qdivApprox n d) := ⟨rfl, rfl, rfl⟩

theorem sqrt (x : Word) : Statement (.sqrt x) := ⟨rfl, rfl, rfl⟩

theorem inverseSqrt (x : Word) : Statement (.inverseSqrt x) := ⟨rfl, rfl, rfl⟩

theorem lerp (a b t : Word) : Statement (.lerp a b t) := ⟨rfl, rfl, rfl⟩

theorem sin (angle : Word) : Statement (.sin angle) := ⟨rfl, rfl, rfl⟩

theorem cos (angle : Word) : Statement (.cos angle) := ⟨rfl, rfl, rfl⟩

theorem atan2 (y x : Word) : Statement (.atan2 y x) := ⟨rfl, rfl, rfl⟩

theorem acos (x : Word) : Statement (.acos x) := ⟨rfl, rfl, rfl⟩

theorem vec3Add (a b : Vec3 Word) : Statement (.vec3Add a b) := ⟨rfl, rfl, rfl⟩

theorem vec3Sub (a b : Vec3 Word) : Statement (.vec3Sub a b) := ⟨rfl, rfl, rfl⟩

theorem vec3Dot (a b : Vec3 Word) : Statement (.vec3Dot a b) := ⟨rfl, rfl, rfl⟩

theorem vec3Cross (a b : Vec3 Word) : Statement (.vec3Cross a b) := ⟨rfl, rfl, rfl⟩

theorem vec3Length (v : Vec3 Word) : Statement (.vec3Length v) := ⟨rfl, rfl, rfl⟩

theorem vec3Normalize (v : Vec3 Word) : Statement (.vec3Normalize v) := ⟨rfl, rfl, rfl⟩

theorem mat3Mul (a b : Mat3 Word) : Statement (.mat3Mul a b) := ⟨rfl, rfl, rfl⟩

theorem mat3MulVec3 (a : Mat3 Word) (v : Vec3 Word) : Statement (.mat3MulVec3 a v) := ⟨rfl, rfl, rfl⟩

theorem mat3RotationEuler (ax ay az : Word) : Statement (.mat3RotationEuler ax ay az) := ⟨rfl, rfl, rfl⟩

theorem quatFromAxisAngle (axis : Vec3 Word) (angle : Word) : Statement (.quatFromAxisAngle axis angle) := ⟨rfl, rfl, rfl⟩

theorem quatRotateVec (q : Quat Word) (v : Vec3 Word) : Statement (.quatRotateVec q v) := ⟨rfl, rfl, rfl⟩

theorem quatNormalize (q : Quat Word) : Statement (.quatNormalize q) := ⟨rfl, rfl, rfl⟩

theorem projectPerspective (v : Vec3 Word) (focal : Word) : Statement (.projectPerspective v focal) := ⟨rfl, rfl, rfl⟩

theorem pipelineMvp (v : Vec3 Word) (scale ax ay az : Word) (t : Vec3 Word) (focal : Word) : Statement (.pipelineMvp v scale ax ay az t focal) := ⟨rfl, rfl, rfl⟩

theorem pipelineMvpFused (v : Vec3 Word) (scale ax ay az : Word) (t : Vec3 Word) (focal : Word) : Statement (.pipelineMvpFused v scale ax ay az t focal) := ⟨rfl, rfl, rfl⟩

theorem toLog32 (v : Word) : Statement (.toLog32 v) := ⟨rfl, rfl, rfl⟩

theorem fromLog32 (a : Log32 Word) : Statement (.fromLog32 a) := ⟨rfl, rfl, rfl⟩

theorem log32Mul (a b : Log32 Word) : Statement (.log32Mul a b) := ⟨rfl, rfl, rfl⟩

theorem log32Div (a b : Log32 Word) : Statement (.log32Div a b) := ⟨rfl, rfl, rfl⟩

theorem log32Add (a b : Log32 Word) : Statement (.log32Add a b) := ⟨rfl, rfl, rfl⟩

theorem log32Pow (a : Log32 Word) (k : Word) : Statement (.log32Pow a k) := ⟨rfl, rfl, rfl⟩

end Sys2Proof.Laws.EncodedShape
end

