-- ==== Sys2Proof/Tests/Slice0.lean ====
section
/-! SUPPORT. Tests. The expected results are those of the spec's examples (the rule of each operation), of
95_test_vectors.md sections 2, 3 and 5, and of hand calculation from the rules where a comment says so; the packets of
the decode tests are written out from the table of R31 and the orders of R33. The witnesses at the end show that the
hypotheses of each statement, clause by clause, can be met. -/

namespace Sys2Proof.Tests

open Sys2Proof Sys2Proof.Machine

-- One theorem after another: each kernel evaluation waits for the ones before it, and every waiting thread holds a stack.
set_option Elab.async false

/-! ### Well-formedness: one ill-formed term for each check, at the value next to a legal one -/

theorem test_wellFormed_refuses_fromLog32 : (Instr.fromLog32 ⟨2#32, 0x6A5#32⟩).wellFormed = false := rfl

theorem test_wellFormed_refuses_log32Mul_left : (Instr.log32Mul ⟨2#32, 0#32⟩ ⟨1#32, 0#32⟩).wellFormed = false := rfl

theorem test_wellFormed_refuses_log32Mul_right :
    (Instr.log32Mul ⟨1#32, 0#32⟩ ⟨0x80000000#32, 0#32⟩).wellFormed = false := rfl

theorem test_wellFormed_refuses_log32Div_left :
    (Instr.log32Div ⟨0xFFFFFFFE#32, 0#32⟩ ⟨1#32, 0#32⟩).wellFormed = false := rfl

theorem test_wellFormed_refuses_log32Div_right : (Instr.log32Div ⟨1#32, 0#32⟩ ⟨2#32, 0#32⟩).wellFormed = false := rfl

theorem test_wellFormed_refuses_log32Add_left :
    (Instr.log32Add ⟨0x7FFFFFFF#32, 0#32⟩ ⟨1#32, 0#32⟩).wellFormed = false := rfl

theorem test_wellFormed_refuses_log32Add_right :
    (Instr.log32Add ⟨1#32, 0#32⟩ ⟨0x100#32, 0#32⟩).wellFormed = false := rfl

theorem test_wellFormed_refuses_log32Pow :
    (Instr.log32Pow ⟨0xFFFFFFFE#32, 0#32⟩ 0x10000#32).wellFormed = false := rfl

theorem test_wellFormed_accepts_signs :
    (Instr.log32Add ⟨0xFFFFFFFF#32, 0x80000000#32⟩ ⟨0#32, 0x6A5#32⟩).wellFormed = true := rfl

/-! ### Decoding: a packet of every operation, every operand word different -/

theorem test_decode_bitscan : decode [0x1#32, 0x11#32] = .instr (.bitscan 0x11#32) := rfl

theorem test_decode_log2 : decode [0x10#32, 0x11#32] = .instr (.log2 0x11#32) := rfl

theorem test_decode_exp2 : decode [0x11#32, 0x11#32] = .instr (.exp2 0x11#32) := rfl

theorem test_decode_mulApprox : decode [0x12#32, 0x11#32, 0x22#32] = .instr (.mulApprox 0x11#32 0x22#32) := rfl

theorem test_decode_divApprox : decode [0x13#32, 0x11#32, 0x22#32] = .instr (.divApprox 0x11#32 0x22#32) := rfl

theorem test_decode_powApprox : decode [0x14#32, 0x11#32, 0x22#32] = .instr (.powApprox 0x11#32 0x22#32) := rfl

theorem test_decode_mulExact : decode [0x20#32, 0x11#32, 0x22#32] = .instr (.mulExact 0x11#32 0x22#32) := rfl

theorem test_decode_divExact : decode [0x21#32, 0x11#32, 0x22#32] = .instr (.divExact 0x11#32 0x22#32) := rfl

theorem test_decode_qmulApprox : decode [0x22#32, 0x11#32, 0x22#32] = .instr (.qmulApprox 0x11#32 0x22#32) := rfl

theorem test_decode_qdivApprox : decode [0x23#32, 0x11#32, 0x22#32] = .instr (.qdivApprox 0x11#32 0x22#32) := rfl

theorem test_decode_sqrt : decode [0x24#32, 0x11#32] = .instr (.sqrt 0x11#32) := rfl

theorem test_decode_inverseSqrt : decode [0x25#32, 0x11#32] = .instr (.inverseSqrt 0x11#32) := rfl

theorem test_decode_lerp : decode [0x26#32, 0x11#32, 0x22#32, 0x33#32] = .instr (.lerp 0x11#32 0x22#32 0x33#32) := rfl

theorem test_decode_sin : decode [0x30#32, 0x11#32] = .instr (.sin 0x11#32) := rfl

theorem test_decode_cos : decode [0x31#32, 0x11#32] = .instr (.cos 0x11#32) := rfl

theorem test_decode_atan2 : decode [0x32#32, 0x11#32, 0x22#32] = .instr (.atan2 0x11#32 0x22#32) := rfl

theorem test_decode_acos : decode [0x33#32, 0x11#32] = .instr (.acos 0x11#32) := rfl

theorem test_decode_vec3Add :
    decode
      [0x40#32, 0x11#32, 0x22#32, 0x33#32, 0x44#32, 0x55#32, 0x66#32] =
      .instr
        (.vec3Add ⟨0x11#32, 0x22#32, 0x33#32⟩ ⟨0x44#32, 0x55#32, 0x66#32⟩) := rfl

theorem test_decode_vec3Sub :
    decode
      [0x41#32, 0x11#32, 0x22#32, 0x33#32, 0x44#32, 0x55#32, 0x66#32] =
      .instr
        (.vec3Sub ⟨0x11#32, 0x22#32, 0x33#32⟩ ⟨0x44#32, 0x55#32, 0x66#32⟩) := rfl

theorem test_decode_vec3Dot :
    decode
      [0x42#32, 0x11#32, 0x22#32, 0x33#32, 0x44#32, 0x55#32, 0x66#32] =
      .instr
        (.vec3Dot ⟨0x11#32, 0x22#32, 0x33#32⟩ ⟨0x44#32, 0x55#32, 0x66#32⟩) := rfl

theorem test_decode_vec3Cross :
    decode
      [0x43#32, 0x11#32, 0x22#32, 0x33#32, 0x44#32, 0x55#32, 0x66#32] =
      .instr
        (.vec3Cross ⟨0x11#32, 0x22#32, 0x33#32⟩ ⟨0x44#32, 0x55#32, 0x66#32⟩) := rfl

theorem test_decode_vec3Length :
    decode
      [0x44#32, 0x11#32, 0x22#32, 0x33#32] =
      .instr
        (.vec3Length ⟨0x11#32, 0x22#32, 0x33#32⟩) := rfl

theorem test_decode_vec3Normalize :
    decode
      [0x45#32, 0x11#32, 0x22#32, 0x33#32] =
      .instr
        (.vec3Normalize ⟨0x11#32, 0x22#32, 0x33#32⟩) := rfl

theorem test_decode_mat3Mul :
    decode
      [0x46#32, 0x11#32, 0x12#32, 0x13#32, 0x14#32, 0x15#32, 0x16#32, 0x17#32, 0x18#32, 0x19#32, 0x1A#32,
      0x1B#32, 0x1C#32, 0x1D#32, 0x1E#32, 0x1F#32, 0x20#32, 0x21#32, 0x22#32] =
      .instr
        (.mat3Mul ⟨⟨0x11#32, 0x12#32, 0x13#32⟩, ⟨0x14#32, 0x15#32, 0x16#32⟩, ⟨0x17#32, 0x18#32, 0x19#32⟩⟩
          ⟨⟨0x1A#32, 0x1B#32, 0x1C#32⟩, ⟨0x1D#32, 0x1E#32, 0x1F#32⟩, ⟨0x20#32, 0x21#32, 0x22#32⟩⟩) := rfl

theorem test_decode_mat3MulVec3 :
    decode
      [0x47#32, 0x11#32, 0x22#32, 0x33#32, 0x44#32, 0x55#32, 0x66#32, 0x77#32, 0x88#32, 0x99#32, 0xAA#32,
      0xBB#32, 0xCC#32] =
      .instr
        (.mat3MulVec3 ⟨⟨0x11#32, 0x22#32, 0x33#32⟩, ⟨0x44#32, 0x55#32, 0x66#32⟩, ⟨0x77#32, 0x88#32, 0x99#32⟩⟩
          ⟨0xAA#32, 0xBB#32, 0xCC#32⟩) := rfl

theorem test_decode_mat3RotationEuler :
    decode
      [0x48#32, 0x11#32, 0x22#32, 0x33#32] =
      .instr
        (.mat3RotationEuler 0x11#32 0x22#32 0x33#32) := rfl

theorem test_decode_quatFromAxisAngle :
    decode
      [0x49#32, 0x11#32, 0x22#32, 0x33#32, 0x44#32] =
      .instr
        (.quatFromAxisAngle ⟨0x11#32, 0x22#32, 0x33#32⟩ 0x44#32) := rfl

theorem test_decode_quatRotateVec :
    decode
      [0x4A#32, 0x11#32, 0x22#32, 0x33#32, 0x44#32, 0x55#32, 0x66#32, 0x77#32] =
      .instr
        (.quatRotateVec ⟨0x11#32, 0x22#32, 0x33#32, 0x44#32⟩ ⟨0x55#32, 0x66#32, 0x77#32⟩) := rfl

theorem test_decode_quatNormalize :
    decode
      [0x4B#32, 0x11#32, 0x22#32, 0x33#32, 0x44#32] =
      .instr
        (.quatNormalize ⟨0x11#32, 0x22#32, 0x33#32, 0x44#32⟩) := rfl

theorem test_decode_projectPerspective :
    decode
      [0x4C#32, 0x11#32, 0x22#32, 0x33#32, 0x44#32] =
      .instr
        (.projectPerspective ⟨0x11#32, 0x22#32, 0x33#32⟩ 0x44#32) := rfl

theorem test_decode_pipelineMvp :
    decode
      [0x4D#32, 0x11#32, 0x22#32, 0x33#32, 0x44#32, 0x55#32, 0x66#32, 0x77#32, 0x88#32, 0x99#32, 0xAA#32,
      0xBB#32] =
      .instr
        (.pipelineMvp ⟨0x11#32, 0x22#32, 0x33#32⟩ 0x44#32 0x55#32 0x66#32 0x77#32 ⟨0x88#32, 0x99#32, 0xAA#32⟩ 0xBB#32) := rfl

theorem test_decode_pipelineMvpFused :
    decode
      [0x4E#32, 0x11#32, 0x22#32, 0x33#32, 0x44#32, 0x55#32, 0x66#32, 0x77#32, 0x88#32, 0x99#32, 0xAA#32,
      0xBB#32] =
      .instr
        (.pipelineMvpFused ⟨0x11#32, 0x22#32, 0x33#32⟩ 0x44#32 0x55#32 0x66#32 0x77#32 ⟨0x88#32, 0x99#32, 0xAA#32⟩ 0xBB#32) := rfl

theorem test_decode_toLog32 : decode [0x50#32, 0x11#32] = .instr (.toLog32 0x11#32) := rfl

theorem test_decode_fromLog32 : decode [0x51#32, 0x1#32, 0x22#32] = .instr (.fromLog32 ⟨0x1#32, 0x22#32⟩) := rfl

theorem test_decode_log32Mul :
    decode
      [0x52#32, 0x1#32, 0x22#32, 0xFFFFFFFF#32, 0x44#32] =
      .instr
        (.log32Mul ⟨0x1#32, 0x22#32⟩ ⟨0xFFFFFFFF#32, 0x44#32⟩) := rfl

theorem test_decode_log32Div :
    decode
      [0x53#32, 0x1#32, 0x22#32, 0xFFFFFFFF#32, 0x44#32] =
      .instr
        (.log32Div ⟨0x1#32, 0x22#32⟩ ⟨0xFFFFFFFF#32, 0x44#32⟩) := rfl

theorem test_decode_log32Add :
    decode
      [0x54#32, 0x1#32, 0x22#32, 0xFFFFFFFF#32, 0x44#32] =
      .instr
        (.log32Add ⟨0x1#32, 0x22#32⟩ ⟨0xFFFFFFFF#32, 0x44#32⟩) := rfl

theorem test_decode_log32Pow :
    decode
      [0x55#32, 0x1#32, 0x22#32, 0x33#32] =
      .instr
        (.log32Pow ⟨0x1#32, 0x22#32⟩ 0x33#32) := rfl

/-! ### Illegal requests (95_test_vectors.md section 5), by the clause of R34 they break -/

theorem test_illegal_op_00 : decode [0x00000000#32] = .illegal .unassignedOp := rfl

theorem test_illegal_op_02 : decode [0x00000002#32, 0x00000001#32] = .illegal .unassignedOp := rfl

theorem test_illegal_op_15 : decode [0x00000015#32, 0x00000064#32, 0x00010000#32] = .illegal .unassignedOp := rfl

theorem test_illegal_op_ff : decode [0x000000FF#32] = .illegal .unassignedOp := rfl

theorem test_illegal_rsvd_low : decode [0x00000110#32, 0x00000001#32] = .illegal .reservedBits := rfl

/-- `RSVD` non-zero and `OP` unassigned: R82 orders nothing, the model names `RSVD` (log entry 6, DESIGN CHOICE). -/
theorem test_illegal_rsvd_and_op : decode [0x00000100#32] = .illegal .reservedBits := rfl

theorem test_illegal_rsvd_high : decode [0x80000001#32, 0x00000001#32] = .illegal .reservedBits := rfl

theorem test_illegal_too_short : decode [0x00000010#32] = .illegal .wordCount := rfl

theorem test_illegal_too_long : decode [0x00000010#32, 0x00000001#32, 0x00000002#32] = .illegal .wordCount := rfl

theorem test_illegal_pipeline_short :
    decode (0x0000004D#32 :: List.replicate 10 0x00000000#32) = .illegal .wordCount := rfl

theorem test_illegal_sign_2 : decode [0x00000051#32, 0x00000002#32, 0x000006A5#32] = .illegal .ringSign := rfl

theorem test_illegal_second_sign :
    decode [0x00000052#32, 0x00000001#32, 0x00000000#32, 0x80000000#32, 0x00000000#32] = .illegal .ringSign := rfl

theorem test_illegal_sign_minus_2 :
    decode [0x00000055#32, 0xFFFFFFFE#32, 0x00000000#32, 0x00010000#32] = .illegal .ringSign := rfl

/-- A packet without a header word (log entry 10). -/
theorem test_illegal_empty : decode [] = .illegal .wordCount := rfl

/-! ### The table's numbering -/

/-- The second word's bits count on from the first's (opcode_table.json); operand words past `nbits` are zero. -/
theorem test_decodeTableWord_operands : decodeTableWord 64 (0x000003E8 * 2 ^ 32 + 0x10) = some (.log2 1000#32) := rfl

theorem test_decodeTableWord_zero_operands :
    decodeTableWord 32 0x54 = some (.log32Add ⟨0#32, 0#32⟩ ⟨0#32, 0#32⟩) := rfl

theorem test_decodeTableWord_refuses : decodeTableWord 32 0x110 = none := rfl

/-! ### One step of each operation at the reference configuration: a spec vector, and a vector at an edge -/

/-- An instruction is answered, and nothing else changes. -/
theorem answeredIn {s : State} (hs : s.config.valid = true) {i : Instr} {r : Packet} (hw : i.wellFormed = true)
    (hr : response s.config i = r) : exec i s = .next (s.answer r) := by
  subst hr
  rw [exec_of_wellFormed hw]
  exact State.respond_of_valid hs _

/-- The same right after the reset of a unit built with configuration `c`. -/
theorem answered {c : Config} (hc : c.valid = true) {i : Instr} {r : Packet} (hw : i.wellFormed = true)
    (hr : response c i = r) : exec i (State.initial c) = .next ((State.initial c).answer r) :=
  answeredIn hc hw hr

theorem test_bitscan_vector :
    exec (.bitscan 0x12345#32) State.reset =
      .next (State.reset.answer [0x10#32]) :=
  answered Config.reference_valid rfl (by decide +kernel)

theorem test_bitscan_edge :
    exec (.bitscan 0x0#32) State.reset =
      .next (State.reset.answer [0xFFFFFFFF#32]) :=
  answered Config.reference_valid rfl (by decide +kernel)

theorem test_log2_vector :
    exec (.log2 0x3E8#32) State.reset =
      .next (State.reset.answer [0x9F7#32]) :=
  answered Config.reference_valid rfl (by decide +kernel)

theorem test_exp2_vector :
    exec (.exp2 0x9F7#32) State.reset =
      .next (State.reset.answer [0x3E8#32]) :=
  answered Config.reference_valid rfl (by decide +kernel)

theorem test_mulApprox_vector :
    exec (.mulApprox 0x64#32 0x5#32) State.reset =
      .next (State.reset.answer [0x1F4#32]) :=
  answered Config.reference_valid rfl (by decide +kernel)

theorem test_divApprox_vector :
    exec (.divApprox 0xF4240#32 0x3E8#32) State.reset =
      .next (State.reset.answer [0x3E8#32]) :=
  answered Config.reference_valid rfl (by decide +kernel)

theorem test_divApprox_edge :
    exec (.divApprox 0x7#32 0x0#32) State.reset =
      .next (State.reset.answer [0xFFFFFFFF#32]) :=
  answered Config.reference_valid rfl (by decide +kernel)

theorem test_powApprox_vector :
    exec (.powApprox 0x3E8#32 0x8000#32) State.reset =
      .next (State.reset.answer [0x1F#32]) :=
  answered Config.reference_valid rfl (by decide +kernel)

theorem test_powApprox_edge :
    exec (.powApprox 0xFFFFFFFF#32 0x7FFFFFFF#32) State.reset =
      .next (State.reset.answer [0xFFFFFFFF#32]) :=
  answered Config.reference_valid rfl (by decide +kernel)

theorem test_mulExact_vector :
    exec (.mulExact 0xFFFE8000#32 0x20000#32) State.reset =
      .next (State.reset.answer [0xFFFD0000#32]) :=
  answered Config.reference_valid rfl (by decide +kernel)

theorem test_mulExact_edge :
    exec (.mulExact 0xFFFFFFFF#32 0x1#32) State.reset =
      .next (State.reset.answer [0xFFFFFFFF#32]) :=
  answered Config.reference_valid rfl (by decide +kernel)

theorem test_divExact_vector :
    exec (.divExact 0xFFFD0000#32 0x20000#32) State.reset =
      .next (State.reset.answer [0xFFFE8000#32]) :=
  answered Config.reference_valid rfl (by decide +kernel)

theorem test_divExact_edge :
    exec (.divExact 0xFFFFFFFF#32 0x7FFFFFFF#32) State.reset =
      .next (State.reset.answer [0x0#32]) :=
  answered Config.reference_valid rfl (by decide +kernel)

theorem test_qmulApprox_vector :
    exec (.qmulApprox 0xFFFE8000#32 0x20000#32) State.reset =
      .next (State.reset.answer [0xFFFD0000#32]) :=
  answered Config.reference_valid rfl (by decide +kernel)

theorem test_qmulApprox_edge :
    exec (.qmulApprox 0xFF000000#32 0x800000#32) State.reset =
      .next (State.reset.answer [0x80000000#32]) :=
  answered Config.reference_valid rfl (by decide +kernel)

theorem test_qdivApprox_vector :
    exec (.qdivApprox 0xFFFD0000#32 0x20000#32) State.reset =
      .next (State.reset.answer [0xFFFE8000#32]) :=
  answered Config.reference_valid rfl (by decide +kernel)

theorem test_qdivApprox_edge :
    exec (.qdivApprox 0xFFFF0000#32 0x0#32) State.reset =
      .next (State.reset.answer [0x80000000#32]) :=
  answered Config.reference_valid rfl (by decide +kernel)

theorem test_sqrt_vector :
    exec (.sqrt 0x20000#32) State.reset =
      .next (State.reset.answer [0x16A00#32]) :=
  answered Config.reference_valid rfl (by decide +kernel)

theorem test_sqrt_edge :
    exec (.sqrt 0xFFFFFFFF#32) State.reset =
      .next (State.reset.answer [0x0#32]) :=
  answered Config.reference_valid rfl (by decide +kernel)

theorem test_inverseSqrt_vector :
    exec (.inverseSqrt 0x40000#32) State.reset =
      .next (State.reset.answer [0x8000#32]) :=
  answered Config.reference_valid rfl (by decide +kernel)

theorem test_inverseSqrt_edge :
    exec (.inverseSqrt 0xFFFFFFFF#32) State.reset =
      .next (State.reset.answer [0x7FFFFFFF#32]) :=
  answered Config.reference_valid rfl (by decide +kernel)

theorem test_lerp_vector :
    exec (.lerp 0x0#32 0xFFFFFFFD#32 0x8000#32) State.reset =
      .next (State.reset.answer [0xFFFFFFFE#32]) :=
  answered Config.reference_valid rfl (by decide +kernel)

theorem test_lerp_edge :
    exec (.lerp 0xA0000#32 0x140000#32 0xFFFF0000#32) State.reset =
      .next (State.reset.answer [0x0#32]) :=
  answered Config.reference_valid rfl (by decide +kernel)

theorem test_sin_vector :
    exec (.sin 0xC000#32) State.reset =
      .next (State.reset.answer [0xFFFF0000#32]) :=
  answered Config.reference_valid rfl (by decide +kernel)

theorem test_sin_edge :
    exec (.sin 0x0#32) State.reset =
      .next (State.reset.answer [0x0#32]) :=
  answered Config.reference_valid rfl (by decide +kernel)

theorem test_cos_vector :
    exec (.cos 0x8000#32) State.reset =
      .next (State.reset.answer [0xFFFF0000#32]) :=
  answered Config.reference_valid rfl (by decide +kernel)

theorem test_cos_edge :
    exec (.cos 0x4000#32) State.reset =
      .next (State.reset.answer [0x0#32]) :=
  answered Config.reference_valid rfl (by decide +kernel)

theorem test_atan2_vector :
    exec (.atan2 0x1#32 0xFFFFFFFE#32) State.reset =
      .next (State.reset.answer [0x6D1C#32]) :=
  answered Config.reference_valid rfl (by decide +kernel)

theorem test_atan2_edge :
    exec (.atan2 0xFFFFFFFF#32 0x7FFFFFFF#32) State.reset =
      .next (State.reset.answer [0x0#32]) :=
  answered Config.reference_valid rfl (by decide +kernel)

theorem test_acos_vector :
    exec (.acos 0xFFFF0000#32) State.reset =
      .next (State.reset.answer [0x7C66#32]) :=
  answered Config.reference_valid rfl (by decide +kernel)

theorem test_acos_edge :
    exec (.acos 0x100#32) State.reset =
      .next (State.reset.answer [0x3FD7#32]) :=
  answered Config.reference_valid rfl (by decide +kernel)

theorem test_vec3Add_vector :
    exec (.vec3Add ⟨0x51AA2#32, 0xFFFE2A06#32, 0x170E0#32⟩ ⟨0x8000#32, 0xFFFFC000#32,
        0x200000#32⟩) State.reset =
      .next (State.reset.answer [0x59AA2#32, 0xFFFDEA06#32, 0x2170E0#32]) :=
  answered Config.reference_valid rfl (by decide +kernel)

theorem test_vec3Add_edge :
    exec (.vec3Add ⟨0x7FFFFFFF#32, 0x80000000#32, 0x0#32⟩ ⟨0x1#32, 0xFFFFFFFF#32, 0x0#32⟩) State.reset =
      .next (State.reset.answer [0x7FFFFFFF#32, 0x80000000#32, 0x0#32]) :=
  answered Config.reference_valid rfl (by decide +kernel)

theorem test_vec3Sub_vector :
    exec (.vec3Sub ⟨0x10000#32, 0x20000#32, 0x30000#32⟩ ⟨0x40000#32, 0x50000#32, 0x60000#32⟩) State.reset =
      .next (State.reset.answer [0xFFFD0000#32, 0xFFFD0000#32, 0xFFFD0000#32]) :=
  answered Config.reference_valid rfl (by decide +kernel)

theorem test_vec3Sub_edge :
    exec (.vec3Sub ⟨0x80000000#32, 0x7FFFFFFF#32, 0x0#32⟩ ⟨0x1#32, 0xFFFFFFFF#32, 0x80000000#32⟩) State.reset =
      .next (State.reset.answer [0x80000000#32, 0x7FFFFFFF#32, 0x7FFFFFFF#32]) :=
  answered Config.reference_valid rfl (by decide +kernel)

theorem test_vec3Dot_vector :
    exec (.vec3Dot ⟨0x10000#32, 0x20000#32, 0x30000#32⟩ ⟨0x40000#32, 0xFFFB0000#32, 0x60000#32⟩) State.reset =
      .next (State.reset.answer [0xC0000#32]) :=
  answered Config.reference_valid rfl (by decide +kernel)

theorem test_vec3Dot_edge :
    exec (.vec3Dot ⟨0xC80000#32, 0xC80000#32, 0x0#32⟩ ⟨0xC80000#32, 0xFF380000#32, 0x0#32⟩) State.reset =
      .next (State.reset.answer [0xFFFFFFFF#32]) :=
  answered Config.reference_valid rfl (by decide +kernel)

theorem test_vec3Cross_vector :
    exec (.vec3Cross ⟨0x10000#32, 0x20000#32, 0x30000#32⟩ ⟨0x40000#32, 0x50000#32, 0x60000#32⟩) State.reset =
      .next (State.reset.answer [0xFFFD0000#32, 0x60000#32, 0xFFFD0000#32]) :=
  answered Config.reference_valid rfl (by decide +kernel)

theorem test_vec3Cross_edge :
    exec (.vec3Cross ⟨0xC80000#32, 0xC80000#32, 0x0#32⟩ ⟨0xFF380000#32, 0xC80000#32, 0x0#32⟩) State.reset =
      .next (State.reset.answer [0x0#32, 0x0#32, 0x7FFFFFFF#32]) :=
  answered Config.reference_valid rfl (by decide +kernel)

theorem test_vec3Length_vector :
    exec (.vec3Length ⟨0x30000#32, 0x40000#32, 0x0#32⟩) State.reset =
      .next (State.reset.answer [0x50000#32]) :=
  answered Config.reference_valid rfl (by decide +kernel)

theorem test_vec3Length_edge :
    exec (.vec3Length ⟨0x0#32, 0x0#32, 0x0#32⟩) State.reset =
      .next (State.reset.answer [0x0#32]) :=
  answered Config.reference_valid rfl (by decide +kernel)

theorem test_vec3Normalize_vector :
    exec (.vec3Normalize ⟨0x30000#32, 0x40000#32, 0x0#32⟩) State.reset =
      .next (State.reset.answer [0x99C0#32, 0xCD00#32, 0x0#32]) :=
  answered Config.reference_valid rfl (by decide +kernel)

theorem test_vec3Normalize_edge :
    exec (.vec3Normalize ⟨0x0#32, 0xFFFE0000#32, 0x0#32⟩) State.reset =
      .next (State.reset.answer [0x0#32, 0xFFFF0000#32, 0x0#32]) :=
  answered Config.reference_valid rfl (by decide +kernel)

theorem test_mat3Mul_vector :
    exec (.mat3Mul ⟨⟨0x10000#32, 0x20000#32, 0x30000#32⟩, ⟨0x40000#32, 0x50000#32, 0x60000#32⟩,
        ⟨0x70000#32, 0x80000#32, 0x90000#32⟩⟩ ⟨⟨0x8000#32, 0x0#32, 0x0#32⟩, ⟨0x0#32, 0x20000#32, 0x0#32⟩,
        ⟨0x0#32, 0x0#32, 0xFFFF0000#32⟩⟩) State.reset =
      .next (State.reset.answer [0x8000#32, 0x40000#32, 0xFFFD0000#32, 0x20000#32, 0xA0000#32,
        0xFFFA0000#32, 0x38000#32, 0x100000#32, 0xFFF70000#32]) :=
  answered Config.reference_valid rfl (by decide +kernel)

theorem test_mat3MulVec3_vector :
    exec (.mat3MulVec3 ⟨⟨0x70E2#32, 0xC1A9#32, 0x7BA1#32⟩, ⟨0xFFFFBC56#32, 0x9FA9#32, 0xFFFF43AD#32⟩,
        ⟨0xFFFF246C#32, 0x325D#32, 0x7997#32⟩⟩ ⟨0x18000#32, 0x30000#32, 0x48000#32⟩) State.reset =
      .next (State.reset.answer [0x51AA2#32, 0xFFFE2A06#32, 0x170E0#32]) :=
  answered Config.reference_valid rfl (by decide +kernel)

theorem test_mat3MulVec3_edge :
    exec (.mat3MulVec3 ⟨⟨0x10000#32, 0x0#32, 0x0#32⟩, ⟨0x0#32, 0x10000#32, 0x0#32⟩, ⟨0x0#32, 0x0#32,
        0x10000#32⟩⟩ ⟨0x1#32, 0xFFFFFFFF#32, 0x80000000#32⟩) State.reset =
      .next (State.reset.answer [0x1#32, 0xFFFFFFFF#32, 0x80000000#32]) :=
  answered Config.reference_valid rfl (by decide +kernel)

theorem test_mat3RotationEuler_vector :
    exec (.mat3RotationEuler 0x1000#32 0x2AAA#32 0xEA60#32) State.reset =
      .next (State.reset.answer [0x70E2#32, 0xC1A9#32, 0x7BA1#32, 0xFFFFBC56#32, 0x9FA9#32, 0xFFFF43AD#32,
        0xFFFF246C#32, 0x325D#32, 0x7997#32]) :=
  answered Config.reference_valid rfl (by decide +kernel)

theorem test_mat3RotationEuler_edge :
    exec (.mat3RotationEuler 0x2000#32 0x4000#32 0x0#32) State.reset =
      .next (State.reset.answer [0x0#32, 0xB505#32, 0xB505#32, 0x0#32, 0xB505#32, 0xFFFF4AFB#32,
        0xFFFF0000#32, 0x0#32, 0x0#32]) :=
  answered Config.reference_valid rfl (by decide +kernel)

theorem test_quatFromAxisAngle_vector :
    exec (.quatFromAxisAngle ⟨0x93CD#32, 0x93CD#32, 0x93CD#32⟩ 0x5555#32) State.reset =
      .next (State.reset.answer [0x839C#32, 0x7EC5#32, 0x7EC5#32, 0x7EC5#32]) :=
  answered Config.reference_valid rfl (by decide +kernel)

theorem test_quatFromAxisAngle_edge :
    exec (.quatFromAxisAngle ⟨0x10000#32, 0x0#32, 0x0#32⟩ 0xFFFF#32) State.reset =
      .next (State.reset.answer [0xFFFF0014#32, 0x648#32, 0x0#32, 0x0#32]) :=
  answered Config.reference_valid rfl (by decide +kernel)

theorem test_quatRotateVec_vector :
    exec (.quatRotateVec ⟨0x0#32, 0x0#32, 0x0#32, 0x10000#32⟩ ⟨0x10000#32, 0x20000#32,
        0x30000#32⟩) State.reset =
      .next (State.reset.answer [0xFFFF0000#32, 0xFFFE0000#32, 0x30000#32]) :=
  answered Config.reference_valid rfl (by decide +kernel)

theorem test_quatRotateVec_edge :
    exec (.quatRotateVec ⟨0xB505#32, 0x0#32, 0xB505#32, 0x0#32⟩ ⟨0x10000#32, 0x0#32, 0x0#32⟩) State.reset =
      .next (State.reset.answer [0xFFFFFFFF#32, 0x0#32, 0xFFFEFFFF#32]) :=
  answered Config.reference_valid rfl (by decide +kernel)

theorem test_quatNormalize_vector :
    exec (.quatNormalize ⟨0x80000000#32, 0x80000000#32, 0x80000000#32, 0x80000000#32⟩) State.reset =
      .next (State.reset.answer [0xFF4A8000#32, 0xFF4A8000#32, 0xFF4A8000#32, 0xFF4A8000#32]) :=
  answered Config.reference_valid rfl (by decide +kernel)

theorem test_quatNormalize_edge :
    exec (.quatNormalize ⟨0x20000#32, 0x0#32, 0x0#32, 0x0#32⟩) State.reset =
      .next (State.reset.answer [0x10000#32, 0x0#32, 0x0#32, 0x0#32]) :=
  answered Config.reference_valid rfl (by decide +kernel)

theorem test_projectPerspective_vector :
    exec (.projectPerspective ⟨0xFFFF0000#32, 0xFFFE0000#32, 0x200000#32⟩ 0x1000000#32) State.reset =
      .next (State.reset.answer [0xFFFF1C72#32, 0xFFFE38E4#32, 0x200000#32]) :=
  answered Config.reference_valid rfl (by decide +kernel)

theorem test_projectPerspective_edge :
    exec (.projectPerspective ⟨0x7FFFFFFF#32, 0x80000000#32, 0x1#32⟩ 0xFFFFFFFE#32) State.reset =
      .next (State.reset.answer [0x7FFFFFFF#32, 0x80000000#32, 0x1#32]) :=
  answered Config.reference_valid rfl (by decide +kernel)

theorem test_pipelineMvp_vector :
    exec (.pipelineMvp ⟨0x10000#32, 0x20000#32, 0x30000#32⟩ 0x18000#32 0x1000#32 0x2AAA#32 0xEA60#32
        ⟨0x8000#32, 0xFFFFC000#32, 0x200000#32⟩ 0x1000000#32) State.reset =
      .next (State.reset.answer [0x4F4E1#32, 0xFFFE27B8#32, 0x2170E0#32]) :=
  answered Config.reference_valid rfl (by decide +kernel)

theorem test_pipelineMvp_edge :
    exec (.pipelineMvp ⟨0x0#32, 0x10000#32, 0x0#32⟩ 0x10000#32 0x0#32 0x0#32 0x0#32 ⟨0x0#32, 0x0#32,
        0x200000#32⟩ 0x1000000#32) State.reset =
      .next (State.reset.answer [0x0#32, 0xE38E#32, 0x200000#32]) :=
  answered Config.reference_valid rfl (by decide +kernel)

theorem test_pipelineMvpFused_vector :
    exec (.pipelineMvpFused ⟨0x10000#32, 0x20000#32, 0x30000#32⟩ 0x18000#32 0x1000#32 0x2AAA#32 0xEA60#32
        ⟨0x8000#32, 0xFFFFC000#32, 0x200000#32⟩ 0x1000000#32) State.reset =
      .next (State.reset.answer [0x4F800#32, 0xFFFE2800#32, 0x2170E0#32]) :=
  answered Config.reference_valid rfl (by decide +kernel)

theorem test_pipelineMvpFused_edge :
    exec (.pipelineMvpFused ⟨0x10000#32, 0xFFFF0000#32, 0x0#32⟩ 0x10000#32 0x0#32 0x0#32 0x0#32 ⟨0x0#32,
        0x0#32, 0xFF000000#32⟩ 0x1000000#32) State.reset =
      .next (State.reset.answer [0x7FFFFFFF#32, 0x80000000#32, 0xFF000000#32]) :=
  answered Config.reference_valid rfl (by decide +kernel)

theorem test_toLog32_vector :
    exec (.toLog32 0x64#32) State.reset =
      .next (State.reset.answer [0x1#32, 0x6A5#32]) :=
  answered Config.reference_valid rfl (by decide +kernel)

theorem test_toLog32_edge :
    exec (.toLog32 0xFFFFFFFF#32) State.reset =
      .next (State.reset.answer [0xFFFFFFFF#32, 0x0#32]) :=
  answered Config.reference_valid rfl (by decide +kernel)

theorem test_fromLog32_vector :
    exec (.fromLog32 ⟨0xFFFFFFFF#32, 0x2CF#32⟩) State.reset =
      .next (State.reset.answer [0xFFFFFFF9#32]) :=
  answered Config.reference_valid rfl (by decide +kernel)

theorem test_fromLog32_edge :
    exec (.fromLog32 ⟨0xFFFFFFFF#32, 0x0#32⟩) State.reset =
      .next (State.reset.answer [0xFFFFFFFF#32]) :=
  answered Config.reference_valid rfl (by decide +kernel)

theorem test_log32Mul_vector :
    exec (.log32Mul ⟨0xFFFFFFFF#32, 0x196#32⟩ ⟨0xFFFFFFFF#32, 0x2CF#32⟩) State.reset =
      .next (State.reset.answer [0x1#32, 0x465#32]) :=
  answered Config.reference_valid rfl (by decide +kernel)

theorem test_log32Mul_edge :
    exec (.log32Mul ⟨0x1#32, 0x80000000#32⟩ ⟨0xFFFFFFFF#32, 0x80000000#32⟩) State.reset =
      .next (State.reset.answer [0xFFFFFFFF#32, 0x80000001#32]) :=
  answered Config.reference_valid rfl (by decide +kernel)

theorem test_log32Div_vector :
    exec (.log32Div ⟨0xFFFFFFFF#32, 0x2CF#32⟩ ⟨0x0#32, 0x80000000#32⟩) State.reset =
      .next (State.reset.answer [0xFFFFFFFF#32, 0x7FFFFFFF#32]) :=
  answered Config.reference_valid rfl (by decide +kernel)

theorem test_log32Div_edge :
    exec (.log32Div ⟨0xFFFFFFFF#32, 0x6A5#32⟩ ⟨0x1#32, 0x2CF#32⟩) State.reset =
      .next (State.reset.answer [0xFFFFFFFF#32, 0x3D6#32]) :=
  answered Config.reference_valid rfl (by decide +kernel)

theorem test_log32Add_vector :
    exec (.log32Add ⟨0x1#32, 0x6A5#32⟩ ⟨0xFFFFFFFF#32, 0x7A5#32⟩) State.reset =
      .next (State.reset.answer [0xFFFFFFFF#32, 0x6A5#32]) :=
  answered Config.reference_valid rfl (by decide +kernel)

theorem test_log32Pow_vector :
    exec (.log32Pow ⟨0xFFFFFFFF#32, 0x80000000#32⟩ 0x10000#32) State.reset =
      .next (State.reset.answer [0x1#32, 0x80000001#32]) :=
  answered Config.reference_valid rfl (by decide +kernel)

theorem test_log32Pow_edge :
    exec (.log32Pow ⟨0x1#32, 0x6A5#32⟩ 0x8000#32) State.reset =
      .next (State.reset.answer [0x1#32, 0x352#32]) :=
  answered Config.reference_valid rfl (by decide +kernel)

/-! ### Other configurations (95_test_vectors.md section 3) -/

/-- `LQ = EQ = 16` with interpolation. -/
def wideInterpolating : Config :=
  { Config.wide with logInterp := true }

theorem wideInterpolating_valid : wideInterpolating.valid = true := by
  decide +kernel

/-- LOG2 1003 with `LOG_INTERP = 1` at `LQ = 8`: one more than without. -/
theorem test_log2_interpolated :
    exec (.log2 1003#32) (State.initial Config.interpolating) =
      .next ((State.initial Config.interpolating).answer [2552#32]) :=
  answered Config.interpolating_valid rfl (by decide +kernel)

/-- EXP2 of the last unsaturated argument at `LQ = EQ = 16`, interpolated: the next entry is twice entry 0. -/
theorem test_exp2_interpolated :
    exec (.exp2 0x001FFFFF#32) (State.initial wideInterpolating) =
      .next ((State.initial wideInterpolating).answer [0xFFFF0000#32]) :=
  answered wideInterpolating_valid rfl (by decide +kernel)

theorem test_mulApprox_interpolated :
    exec (.mulApprox 1000#32 1000#32) (State.initial wideInterpolating) =
      .next ((State.initial wideInterpolating).answer [1000008#32]) :=
  answered wideInterpolating_valid rfl (by decide +kernel)

/-- LOG32_ADD of like signs at `LQ = 16`: the index of the difference is shifted by 11. -/
theorem test_log32Add_wide :
    exec (.log32Add ⟨1#32, 435412#32⟩ ⟨1#32, 500948#32⟩) (State.initial Config.wide) =
      .next ((State.initial Config.wide).answer [1#32, 539284#32]) :=
  answered Config.wide_valid rfl (by decide +kernel)

/-! ### One step of the machine -/

/-- The state in which the host is about to do `es`. -/
def presenting (es : List HostEvent) : State :=
  { State.reset with inputs := es }

theorem step_presenting (es : List HostEvent) : step (presenting es) = runHead (presenting es) := by
  unfold step runValid
  exact if_pos Config.reference_valid

theorem test_step_request :
    step (presenting [.request [0x32#32, 0xFFFFFF9C#32, 0#32], .reset []]) =
      .next { presenting [.reset []] with responses := [[0xC000#32]] } :=
  (step_presenting _).trans
    (answeredIn (s := presenting [.reset []]) (i := .atan2 0xFFFFFF9C#32 0#32) Config.reference_valid rfl
      (by decide +kernel))

theorem test_step_illegal :
    step (presenting [.request [0x110#32, 1#32]]) = .refused (.illegalRequest .reservedBits) :=
  (step_presenting _).trans rfl

/-- A reset cuts off a partly received LOG2: no response (R87 (b)). -/
theorem test_step_reset_input : step (presenting [.reset [0x10#32]]) = .next (presenting []) :=
  (step_presenting _).trans rfl

theorem test_step_idle : step State.reset = .next State.reset :=
  (step_presenting []).trans rfl

/-- `LQ = 7` is one below the least legal value (R4). -/
theorem test_step_invalid : step (State.initial { Config.reference with lq := 7 }) = .refused .invalidConfiguration :=
  rfl

/-- What `withFetchWord` places, the next step answers. -/
theorem test_withFetchWord : step (State.reset.withFetchWord 32 0x31) = .next (State.reset.answer [0x10000#32]) :=
  (step_presenting [.request [0x31#32, 0#32]]).trans
    (answeredIn (s := State.reset) (i := .cos 0#32) Config.reference_valid rfl (by decide +kernel))

/-! ### Witnesses: the hypotheses of each statement are met, clause by clause, at the ends of the ranges -/

/-- `s.config.valid = true`, the premise of every statement about an operation; where a statement has no other premise
this is its witness. -/
theorem witness_valid : State.reset.config.valid = true :=
  Config.reference_valid

theorem witness_DecodeOfEncode : (Instr.log32Add ⟨0xFFFFFFFF#32, 0x80000000#32⟩ ⟨1#32, 7#32⟩).wellFormed = true := rfl

theorem witness_EncodeOfDecode : decode [0x51#32, 0#32, 0x6A5#32] = .instr (.fromLog32 ⟨0#32, 0x6A5#32⟩) := rfl

theorem legalFor_fromLog32 : LegalFor .fromLog32 [0x51#32, 0xFFFFFFFF#32, 0x80000000#32] :=
  ⟨_, _, rfl, by decide, by decide, rfl, by decide⟩

theorem legalFor_bitscan : LegalFor .bitscan [0x01#32, 0xFFFFFFFF#32] :=
  ⟨_, _, rfl, by decide, by decide, rfl, by decide⟩

theorem witness_DecodeAcceptsExactlyLegalRequests :
    LegalFor .fromLog32 [0x51#32, 0xFFFFFFFF#32, 0x80000000#32] ∧
      ∃ i, decode [0x51#32, 0xFFFFFFFF#32, 0x80000000#32] = .instr i ∧ i.op = .fromLog32 :=
  ⟨legalFor_fromLog32, _, rfl, rfl⟩

/-- The values next to the three legal ones. -/
theorem witness_IllegalSignIsRefused :
    ¬ LegalSign 2#32 ∧ ¬ LegalSign 0xFFFFFFFE#32 ∧ ¬ LegalSign 0x80000000#32 ∧ ¬ LegalSign 0x7FFFFFFF#32 := by
  unfold LegalSign; decide

theorem witness_StepRunsDecodedInstruction :
    (presenting [.request [0x10#32, 0#32]]).config.valid = true ∧
      (presenting [.request [0x10#32, 0#32]]).inputs = .request [0x10#32, 0#32] :: [] ∧
      decode [0x10#32, 0#32] = .instr (.log2 0#32) :=
  ⟨Config.reference_valid, rfl, rfl⟩

theorem witness_IllegalRequestIsRefused :
    (presenting [.request [0x110#32, 1#32]]).config.valid = true ∧
      (presenting [.request [0x110#32, 1#32]]).inputs = .request [0x110#32, 1#32] :: [] ∧
      ¬ LegalRequest [0x110#32, 1#32] := by
  refine ⟨Config.reference_valid, rfl, ?_⟩
  rintro ⟨o, h, ws, he, -, h₂, -⟩
  cases he
  revert h₂
  decide

theorem witness_EveryLegalRequestIsAnswered :
    (presenting [.request [0x01#32, 0xFFFFFFFF#32]]).config.valid = true ∧
      (presenting [.request [0x01#32, 0xFFFFFFFF#32]]).inputs = .request [0x01#32, 0xFFFFFFFF#32] :: [] ∧
      LegalFor .bitscan [0x01#32, 0xFFFFFFFF#32] :=
  ⟨Config.reference_valid, rfl, legalFor_bitscan⟩

theorem witness_EveryInstructionCompletes :
    State.reset.config.valid = true ∧ (Instr.log32Div ⟨0#32, 0#32⟩ ⟨0#32, 0#32⟩).wellFormed = true :=
  ⟨Config.reference_valid, rfl⟩

theorem witness_RequestsAreAnsweredInOrderByOneFunction :
    Config.wide.valid = true ∧
      ∀ p ∈ [[0x01#32, 0xFFFFFFFF#32], [0x51#32, 0xFFFFFFFF#32, 0x80000000#32]], LegalRequest p := by
  refine ⟨Config.wide_valid, fun p hp => ?_⟩
  simp only [List.mem_cons, List.not_mem_nil, or_false] at hp
  rcases hp with rfl | rfl
  · exact ⟨_, legalFor_bitscan⟩
  · exact ⟨_, legalFor_fromLog32⟩

/-- The reference configuration with other values in the entries nothing reads. -/
def otherUnspecified : Config :=
  { Config.reference with
    msb8 := 77 :: Config.reference.msb8.drop 1,
    log2Rom := List.replicate 128 (-5) ++ Config.reference.log2Rom.drop 128 }

theorem witness_UnspecifiedEntriesAreNeverRead :
    State.reset.config.SameSpecified otherUnspecified ∧ otherUnspecified ≠ State.reset.config ∧
      Answers State.reset (.log2 1000#32) [2551#32] :=
  ⟨⟨77, List.replicate 128 (-5), rfl, List.length_replicate⟩,
    fun h => absurd (congrArg (fun c => c.msb8.getD 0 0) h) (by decide +kernel),
    test_log2_vector⟩

theorem witness_InvalidConfigurationIsRefused :
    (State.initial { Config.reference with lq := 17 }).config.valid = false ∧
      (Instr.mulExact 1#32 1#32).wellFormed = true :=
  ⟨rfl, rfl⟩

/-- Both parts: a step that answers a request, and an execution. -/
theorem witness_NothingIsWrittenAndEachRequestIsAnsweredOnce :
    (∃ t, step (presenting [.request [0x32#32, 0xFFFFFF9C#32, 0#32], .reset []]) = .next t) ∧
      ∃ t, exec (.log2 1000#32) State.reset = .next t :=
  ⟨⟨_, test_step_request⟩, _, test_log2_vector⟩

theorem witness_EveryStepKeepsInv :
    (presenting [.request [0x32#32, 0xFFFFFF9C#32, 0#32], .reset []]).Inv ∧
      ∃ t, step (presenting [.request [0x32#32, 0xFFFFFF9C#32, 0#32], .reset []]) = .next t :=
  ⟨⟨Config.reference_valid, fun _ hr => by cases hr⟩, _, test_step_request⟩

/-- The first clause at a configuration other than that of `State.reset`. -/
theorem witness_ResetHasInv : Config.wide.valid = true ∧ Config.wide ≠ State.reset.config :=
  ⟨Config.wide_valid, fun h => absurd (congrArg Config.lq h) (by decide)⟩

theorem witness_ResetInputDiscardsTheRequest :
    (presenting [.reset [0x10#32]]).config.valid = true ∧
      (presenting [.reset [0x10#32]]).inputs = .reset [0x10#32] :: [] :=
  ⟨Config.reference_valid, rfl⟩

/-- The zero clause, and the other clause at the least and the greatest `e`. -/
theorem witness_BitscanIsFloorLog2 :
    State.reset.config.valid = true ∧ (0#32 : Word) = 0#32 ∧
      (2 ^ 0 ≤ (1#32 : Word).toNat ∧ (1#32 : Word).toNat < 2 ^ (0 + 1)) ∧
      2 ^ 31 ≤ (0xFFFFFFFF#32 : Word).toNat ∧ (0xFFFFFFFF#32 : Word).toNat < 2 ^ (31 + 1) :=
  ⟨Config.reference_valid, by decide⟩

theorem witness_Log2Plain :
    State.reset.config.valid = true ∧ State.reset.config.logInterp = false ∧ (0#32 : Word) = 0#32 ∧
      (2 ^ 0 ≤ (1#32 : Word).toNat ∧ (1#32 : Word).toNat < 2 ^ (0 + 1)) ∧
      2 ^ 31 ≤ (0x80000000#32 : Word).toNat ∧ (0x80000000#32 : Word).toNat < 2 ^ (31 + 1) :=
  ⟨Config.reference_valid, rfl, by decide⟩

/-- The zero clause; `e = 0` and `e = 7`; `nb = 1` next to it, and `nb = 24` with the mantissa 255. -/
theorem witness_Log2Interpolated :
    (State.initial wideInterpolating).config.valid = true ∧ (State.initial wideInterpolating).config.logInterp = true ∧
      (2 ^ 0 ≤ (1#32 : Word).toNat ∧ (1#32 : Word).toNat < 2 ^ (0 + 1) ∧ 0 ≤ 7) ∧
      (2 ^ 7 ≤ (255#32 : Word).toNat ∧ (255#32 : Word).toNat < 2 ^ (7 + 1) ∧ 7 ≤ 7) ∧
      (1 ≤ 1 ∧ 2 ^ (1 + 7) ≤ (256#32 : Word).toNat ∧ (256#32 : Word).toNat < 2 ^ (1 + 8)) ∧
      1 ≤ 24 ∧ 2 ^ (24 + 7) ≤ (0xFFFFFFFF#32 : Word).toNat ∧ (0xFFFFFFFF#32 : Word).toNat < 2 ^ (24 + 8) ∧
      (0xFFFFFFFF#32 : Word).toNat / 2 ^ 24 = 255 :=
  ⟨wideInterpolating_valid, rfl, by decide⟩

theorem reference_log2Monotone : Config.reference.Log2Monotone := by
  refine ⟨fun m h₁ h₂ => ?_, by decide +kernel⟩
  have h : ∀ k < 255, 128 ≤ k → Config.reference.log2Rom.getD k 0 ≤ Config.reference.log2Rom.getD (k + 1) 0 := by
    decide +kernel
  exact h m h₂ h₁

/-- Two magnitudes next to each other across an octave boundary. -/
theorem witness_Log2IsMonotonic :
    State.reset.config.valid = true ∧ State.reset.config.Log2Monotone ∧ (255#32 : Word) ≠ 0#32 ∧
      (255#32 : Word).toNat < (256#32 : Word).toNat :=
  ⟨Config.reference_valid, reference_log2Monotone, by decide⟩

/-- A left shift by the most and by nothing, a right shift by `EQ` (`y = 0`) and one that leaves nothing (`y = -1`). -/
theorem witness_Exp2Plain :
    State.reset.config.valid = true ∧ State.reset.config.logInterp = false ∧
      (0x1FFF#32 : Word).toInt / 2 ^ 8 = ((8 : Nat) : Int) + (23 : Nat) ∧
      (0x800#32 : Word).toInt / 2 ^ 8 = ((8 : Nat) : Int) + (0 : Nat) ∧
      (0#32 : Word).toInt / 2 ^ 8 = ((8 : Nat) : Int) - (8 : Nat) ∧
      (0xFFFFFFFF#32 : Word).toInt / 2 ^ 8 = ((8 : Nat) : Int) - (9 : Nat) :=
  ⟨Config.reference_valid, rfl, by decide⟩

/-- No fraction bits left at `LQ = 8`; eight at `LQ = 16`, in the last interval (index 255) and in the first. -/
theorem witness_Exp2Interpolated :
    (State.initial Config.interpolating).config.valid = true ∧
      (State.initial Config.interpolating).config.logInterp = true ∧
      ((247 : Nat) : Int) = (2551#32 : Word).toInt % 2 ^ 8 ∧ Config.interpolating.lq = 8 + 0 ∧
      (State.initial wideInterpolating).config.valid = true ∧ (State.initial wideInterpolating).config.logInterp = true ∧
      ((65535 : Nat) : Int) = (0x1FFFFF#32 : Word).toInt % 2 ^ 16 ∧ 65535 / 2 ^ 8 = 255 ∧
      ((255 : Nat) : Int) = (255#32 : Word).toInt % 2 ^ 16 ∧ wideInterpolating.lq = 8 + 8 :=
  ⟨Config.interpolating_valid, rfl, by decide, rfl, wideInterpolating_valid, rfl, by decide, by decide, by decide, rfl⟩

/-- Each way to meet the premise: no interpolation, `LQ = 8` with interpolation, and the exact first entry at
`LQ = 16` with interpolation. -/
theorem witness_Exp2ClampsExactlyOutsideItsRange :
    (State.reset.config.valid = true ∧ State.reset.config.logInterp = false) ∧
      (Config.interpolating.valid = true ∧ Config.interpolating.logInterp = true ∧ Config.interpolating.lq = 8) ∧
      wideInterpolating.valid = true ∧ wideInterpolating.logInterp = true ∧ wideInterpolating.lq ≠ 8 ∧
      wideInterpolating.exp2Rom[0]? = some (2 ^ wideInterpolating.eq) :=
  ⟨⟨Config.reference_valid, rfl⟩, ⟨Config.interpolating_valid, rfl, rfl⟩, wideInterpolating_valid, rfl, by decide, rfl⟩

/-- Both clauses: a zero divisor, and the least non-zero one in magnitude. -/
theorem witness_DivExact : State.reset.config.valid = true ∧ (0#32 : Word) = 0#32 ∧ (0xFFFFFFFF#32 : Word) ≠ 0#32 :=
  ⟨Config.reference_valid, rfl, by decide⟩

/-- The origin, and the point of the largest magnitudes (a swap). -/
theorem witness_Atan2ByOctantFolding :
    State.reset.config.valid = true ∧
      (0 = min (0#32 : Word).toInt.natAbs (0#32 : Word).toInt.natAbs ∧
        0 = max (0#32 : Word).toInt.natAbs (0#32 : Word).toInt.natAbs) ∧
      2147483647 = min (0x80000000#32 : Word).toInt.natAbs (0x7FFFFFFF#32 : Word).toInt.natAbs ∧
      2147483648 = max (0x80000000#32 : Word).toInt.natAbs (0x7FFFFFFF#32 : Word).toInt.natAbs ∧ 2147483648 ≠ 0 :=
  ⟨Config.reference_valid, by decide⟩

/-- The greatest half angle, from an angle with bits above bit 15. -/
theorem witness_QuatFromAxisAngleByHalfAngle :
    State.reset.config.valid = true ∧ (0x7FFF#32 : Word).toNat = (0xABCDFFFF#32 : Word).toNat % 65536 / 2 :=
  ⟨Config.reference_valid, by decide⟩

/-- The zero denominator, and the greatest one. -/
theorem witness_ProjectPerspective :
    State.reset.config.valid = true ∧
      (1 : Int) = (if (0xFFFFFFFF#32 : Word).toInt + (1#32 : Word).toInt = 0 then 1
        else (0xFFFFFFFF#32 : Word).toInt + (1#32 : Word).toInt) ∧
      (4294967294 : Int) = (if (0x7FFFFFFF#32 : Word).toInt + (0x7FFFFFFF#32 : Word).toInt = 0 then 1
        else (0x7FFFFFFF#32 : Word).toInt + (0x7FFFFFFF#32 : Word).toInt) :=
  ⟨Config.reference_valid, by decide⟩

/-- The premise of FROM_LOG32, LOG32_MUL, LOG32_DIV, LOG32_POW and of commutativity: each legal sign. -/
theorem witness_LegalSign :
    State.reset.config.valid = true ∧ LegalSign 0xFFFFFFFF#32 ∧ LegalSign 0#32 ∧ LegalSign 1#32 :=
  ⟨Config.reference_valid, .inl rfl, .inr (.inl rfl), .inr (.inr rfl)⟩

/-- The five clauses of LOG32_ADD by the signs of the operands: (0, 0), (0, 1), (-1, 0), (-1, -1), (1, -1). -/
theorem witness_Log32AddByCases :
    State.reset.config.valid = true ∧ LegalSign 0xFFFFFFFF#32 ∧ LegalSign 0#32 ∧ LegalSign 1#32 ∧
      (0#32 : Word) = 0#32 ∧ (1#32 : Word) ≠ 0#32 ∧ (0xFFFFFFFF#32 : Word) ≠ 0#32 ∧
      (0xFFFFFFFF#32 : Word) = 0xFFFFFFFF#32 ∧ (1#32 : Word) ≠ 0xFFFFFFFF#32 :=
  ⟨Config.reference_valid, .inl rfl, .inr (.inl rfl), .inr (.inr rfl), by decide⟩

/-- The largest sum that does not saturate, with a negative dividend; the log word `INT32_MIN`, with the least sum. -/
theorem witness_Log32DivUndoesLog32Mul :
    State.reset.config.valid = true ∧ LegalSign 0xFFFFFFFF#32 ∧ LegalSign 1#32 ∧ (0xFFFFFFFF#32 : Word) ≠ 0#32 ∧
      (1#32 : Word) ≠ 0#32 ∧ -(2 ^ 31) < (0x7FFFFFFE#32 : Word).toInt + (1#32 : Word).toInt ∧
      (0x7FFFFFFE#32 : Word).toInt + (1#32 : Word).toInt < 2 ^ 31 ∧
      -(2 ^ 31) < (0x80000000#32 : Word).toInt + (1#32 : Word).toInt ∧
      (0x80000000#32 : Word).toInt + (1#32 : Word).toInt < 2 ^ 31 :=
  ⟨Config.reference_valid, .inl rfl, .inr (.inr rfl), by decide⟩

/-- Each of the five operations answers, LOG32_ADD on operands that meet its extra premise. -/
theorem witness_RingResultsAreWellFormed :
    (∃ r, Answers State.reset (.toLog32 0x64#32) r) ∧
      (∃ r, Answers State.reset (.log32Mul ⟨1#32, 0x80000000#32⟩ ⟨0xFFFFFFFF#32, 0x80000000#32⟩) r) ∧
      (∃ r, Answers State.reset (.log32Div ⟨0xFFFFFFFF#32, 719#32⟩ ⟨0#32, 0x80000000#32⟩) r) ∧
      (∃ r, Answers State.reset (.log32Pow ⟨1#32, 1701#32⟩ 0x8000#32) r) ∧
      (∃ r, Answers State.reset (.log32Add ⟨0#32, 0x80000000#32⟩ ⟨1#32, 0x80000001#32⟩) r) ∧
      ((0x80000000#32 : Word) = 0x80000000#32 → (0#32 : Word) = 0#32) ∧
      ((0x80000001#32 : Word) = 0x80000000#32 → (1#32 : Word) = 0#32) :=
  ⟨⟨_, answered Config.reference_valid rfl rfl⟩, ⟨_, answered Config.reference_valid rfl rfl⟩,
    ⟨_, answered Config.reference_valid rfl rfl⟩, ⟨_, answered Config.reference_valid rfl rfl⟩,
    ⟨_, answered Config.reference_valid rfl rfl⟩, fun _ => rfl, by decide⟩

end Sys2Proof.Tests
end

section
/-! Proofs of the statements of 00_scope.md. First what the decoder answers for a legal request and what one step can do,
each said once; then the three obligations. -/

namespace Sys2Proof

/-! ### The header and the operand words of a legal request (R31, R34) -/

theorem headerOp_eq_mod (h : Word) : headerOp h = h.toNat % 256 := by
  simp [headerOp]

theorem headerRsvd_eq_zero_iff (h : Word) : headerRsvd h = 0 ↔ h.toNat / 256 = 0 := by
  have hdiv : headerRsvd h = h.toNat / 256 % 2 ^ 24 := by
    simp [headerRsvd, Nat.shiftRight_eq_div_pow]
  have hlt := h.isLt
  omega

/-- The select codes differ, so the table is searched up to the operation itself. -/
@[simp] theorem Op.ofCode_code (o : Op) : Op.ofCode o.code = some o := by
  cases o <;> rfl

theorem ringSignLegal_iff_toInt (w : Word) :
    ringSignLegal w = true ↔ w.toInt = -1 ∨ w.toInt = 0 ∨ w.toInt = 1 := by
  simp only [ringSignLegal, Bool.or_eq_true, beq_iff_eq, or_assoc, ← BitVec.toInt_inj]
  rfl

/-- The instruction built from operand words is well formed exactly when every sign word among them is legal (R34 (d)). -/
theorem Op.instr_wellFormed_iff (o : Op) (ws : List Word) :
    (o.instr ws).wellFormed = true ↔ ∀ k ∈ o.signPlaces, ringSignLegal (opndWord ws k) = true := by
  cases o
  case fromLog32 | log32Pow | log32Mul | log32Div | log32Add =>
    simp [Op.instr, Op.signPlaces, Instr.wellFormed, Log32.legal, opndLog32]
  all_goals exact ⟨fun _ _ hk => absurd hk List.not_mem_nil, fun _ => rfl⟩

/-- The decoder on a packet whose header names `o` and is otherwise zero. -/
theorem decode_of_header {o : Op} {h : Word} (hop : h.toNat % 256 = o.code) (hrsvd : h.toNat / 256 = 0)
    (ws : List Word) : decode (h :: ws) = decodeOperands o ws := by
  simp only [decode, (headerRsvd_eq_zero_iff h).2 hrsvd, headerOp_eq_mod, hop, Op.ofCode_code, if_true]

theorem decodeOperands_of_legal {o : Op} {ws : List Word} (hlen : ws.length = o.nopnd)
    (hwf : (o.instr ws).wellFormed = true) : decodeOperands o ws = .instr (o.instr ws) := by
  rw [decodeOperands, if_pos hlen, if_pos hwf]

/-- A legal request decodes to a well-formed instruction (R34). -/
theorem decode_of_legalRequest {p : Packet} (hp : LegalRequest p) :
    ∃ i, decode p = .instr i ∧ i.wellFormed = true := by
  obtain ⟨o, h, ws, rfl, hop, hrsvd, hlen, hsign⟩ := hp
  have hwf : (o.instr ws).wellFormed = true :=
    (o.instr_wellFormed_iff ws).2 fun k hk => (ringSignLegal_iff_toInt _).2 (hsign k hk)
  exact ⟨o.instr ws, (decode_of_header hop hrsvd ws).trans (decodeOperands_of_legal hlen hwf), hwf⟩

namespace Machine

/-! ### What one step can do -/

theorem step_of_invalid {s : State} (h : s.config.valid = false) : step s = .refused .invalidConfiguration := by
  simp [step, runValid, h]

theorem step_of_valid {s : State} (h : s.config.valid = true) : step s = runHead s := by
  simp [step, runValid, h]

theorem runHead_idle {s : State} (h : s.inputs = []) : runHead s = .next s := by
  simp only [runHead, h]

theorem runHead_cons {s : State} {e : HostEvent} {rest : List HostEvent} (h : s.inputs = e :: rest) :
    runHead s = hostEvent e { s with inputs := rest } := by
  simp only [runHead, h]

/-- The request at the head of the host's list is taken off it and transacted (R28, R29). -/
theorem step_of_request {s : State} (hv : s.config.valid = true) {p : Packet} {rest : List HostEvent}
    (hin : s.inputs = .request p :: rest) : step s = transact p { s with inputs := rest } :=
  (step_of_valid hv).trans (runHead_cons hin)

theorem transact_of_decode {p : Packet} {i : Instr} (h : decode p = .instr i) (s : State) :
    transact p s = exec i s := by
  simp only [transact, h]

/-- Everything a transaction has done when it answers a next state. -/
theorem transact_next {p : Packet} {s t : State} (h : transact p s = .next t) :
    ∃ i, decode p = .instr i ∧ i.wellFormed = true ∧ t = s.answer (response s.config i) := by
  unfold transact at h
  split at h
  next i hi =>
    obtain ⟨hwf, -, ht⟩ := exec_next h
    exact ⟨i, hi, hwf, ht⟩
  next => cases h

/-- Everything a step has done when it answers a next state: it was idle (log entry 4), or took a reset off the host's list
(R87), or took a request and answered it (R28, R30). -/
theorem step_next {s t : State} (h : step s = .next t) :
    s.config.valid = true ∧
      ((s.inputs = [] ∧ t = s) ∨
        (∃ cut rest, s.inputs = .reset cut :: rest ∧ t = { s with inputs := rest }) ∨
        ∃ p rest i, s.inputs = .request p :: rest ∧ decode p = .instr i ∧ i.wellFormed = true ∧
          t = State.answer { s with inputs := rest } (response s.config i)) := by
  cases hv : s.config.valid with
  | false =>
    rw [step_of_invalid hv] at h
    cases h
  | true =>
    rw [step_of_valid hv] at h
    refine ⟨rfl, ?_⟩
    cases hin : s.inputs with
    | nil =>
      rw [runHead_idle hin] at h
      cases h
      exact .inl ⟨rfl, rfl⟩
    | cons e rest =>
      rw [runHead_cons hin] at h
      cases e with
      | reset cut =>
        cases h
        exact .inr (.inl ⟨cut, rest, rfl, rfl⟩)
      | request p =>
        exact .inr (.inr ⟨p, rest, (transact_next h).imp fun _ hi => ⟨rfl, hi⟩⟩)

/-! ### The invariant -/

theorem nres_mem_responseLengths (o : Op) : o.nres ∈ responseLengths := by
  cases o <;> decide

theorem State.Inv.withInputs {s : State} (h : s.Inv) (es : List HostEvent) : State.Inv { s with inputs := es } := h

/-- Receiving a whole response keeps the invariant (R30). -/
theorem State.Inv.answer {s : State} (h : s.Inv) (i : Instr) : (s.answer (response s.config i)).Inv := by
  obtain ⟨hvalid, hwhole⟩ := h
  refine ⟨hvalid, fun r hr => ?_⟩
  rw [State.answer_responses, List.mem_append, List.mem_singleton] at hr
  rcases hr with hr | rfl
  · exact hwhole r hr
  · rw [response_length]
    exact nres_mem_responseLengths i.op

/-- Settles O15: of the three things a step can do, only the answer to a request adds a response, a whole one. -/
theorem everyStepKeepsInv : Obligations.EveryStepKeepsInv := by
  intro s t hinv hstep
  obtain ⟨-, ⟨-, rfl⟩ | ⟨_, rest, -, rfl⟩ | ⟨_, rest, i, -, -, -, rfl⟩⟩ := step_next hstep
  · exact hinv
  · exact hinv.withInputs rest
  · exact (hinv.withInputs rest).answer i

/-! ### A sequence of requests -/

/-- The response to a request packet, of the configuration and the packet alone (R1); empty where R34 defines none. -/
def requestResponse (c : Config) (p : Packet) : Packet :=
  match decode p with
  | .instr i => response c i
  | .illegal _ => []

theorem requestResponse_of_decode {p : Packet} {i : Instr} (h : decode p = .instr i) (c : Config) :
    requestResponse c p = response c i := by
  simp only [requestResponse, h]

/-- A step on a valid configuration answers a legal request that is next, and takes it off the host's list (R28, R30). -/
theorem step_of_legalRequest {c : Config} (hc : c.valid = true) {p : Packet} (hp : LegalRequest p)
    (rest : List HostEvent) (done : List Packet) :
    step (State.mk c (.request p :: rest) done) = .next (State.mk c rest (done ++ [requestResponse c p])) := by
  obtain ⟨i, hi, hwf⟩ := decode_of_legalRequest hp
  rw [requestResponse_of_decode hi]
  calc step (State.mk c (.request p :: rest) done)
      = transact p (State.mk c rest done) := step_of_request (s := State.mk c (.request p :: rest) done) hc rfl
    _ = (State.mk c rest done).respond fun c => response c i :=
        (transact_of_decode hi _).trans (exec_of_wellFormed hwf _)
    _ = .next (State.mk c rest (done ++ [response c i])) := State.respond_of_valid hc _

theorem run_succ_of_step {s t : State} (h : step s = .next t) (k : Nat) :
    Host.Core.run core (k + 1) s = Host.Core.run core k t := by
  have hcore : core.step s = .next t := h
  simp only [Host.Core.run, hcore]

/-- One step per request, each answered by `requestResponse` whatever came before it. -/
theorem run_of_legalRequests {c : Config} (hc : c.valid = true) (rest : List HostEvent) :
    ∀ (ps : List Packet) (done : List Packet), (∀ p ∈ ps, LegalRequest p) →
      Host.Core.run core ps.length (State.mk c (ps.map HostEvent.request ++ rest) done) =
        .next (State.mk c rest (done ++ ps.map (requestResponse c))) := by
  intro ps
  induction ps with
  | nil =>
    intro done _
    exact congrArg (fun d => Host.Outcome.next (State.mk c rest d)) (List.append_nil done).symm
  | cons p ps ih =>
    intro done hlegal
    obtain ⟨hp, hps⟩ := List.forall_mem_cons.1 hlegal
    have hrun := ih (done ++ [requestResponse c p]) hps
    rw [List.append_assoc] at hrun
    exact (run_succ_of_step (step_of_legalRequest hc hp _ done) ps.length).trans hrun

/-- Settles O11: the function is `requestResponse c`. -/
theorem requestsAreAnsweredInOrderByOneFunction : Obligations.RequestsAreAnsweredInOrderByOneFunction :=
  fun c hc => ⟨requestResponse c, fun ps rest done => run_of_legalRequests hc rest ps done⟩

/-! ### An invalid configuration -/

/-- Settles O13: validity is tested before anything else, by a step and by the answer of every well-formed
instruction. -/
theorem invalidConfigurationIsRefused : Obligations.InvalidConfigurationIsRefused :=
  fun s hs => ⟨step_of_invalid hs, fun _ hi => (exec_of_wellFormed hi s).trans (State.respond_of_invalid hs _)⟩

end Machine

end Sys2Proof
end

section
/-! Proof of a statement of 10_state.md: what a response and a host event do to the host's two lists, each said once;
then the obligation. -/

namespace Sys2Proof.Machine

/-! ### The responses received and the requests waiting -/

/-- A response goes behind the earlier ones, which stay as they are (R30). -/
theorem State.responses_prefix_answer (s : State) (r : Packet) : s.responses <+: (s.answer r).responses :=
  List.prefix_append s.responses [r]

theorem State.length_responses_answer (s : State) (r : Packet) :
    (s.answer r).responses.length = s.responses.length + 1 := by
  rw [State.answer_responses, List.length_append, List.length_singleton]

@[simp] theorem State.answer_waiting (s : State) (r : Packet) : (s.answer r).waiting = s.waiting := rfl

theorem State.waiting_of_request {s : State} {p : Packet} {rest : List HostEvent} (h : s.inputs = .request p :: rest) :
    s.waiting = State.waiting { s with inputs := rest } + 1 := by
  rw [State.waiting, h]
  exact List.countP_cons_of_pos rfl

/-- A reset event is not a request: the one it cuts off was never in the list (R87, log entry 5). -/
theorem State.waiting_of_reset {s : State} {cut : Packet} {rest : List HostEvent} (h : s.inputs = .reset cut :: rest) :
    s.waiting = State.waiting { s with inputs := rest } := by
  rw [State.waiting, h]
  exact List.countP_cons_of_neg Bool.false_ne_true

/-! ### What a step and an instruction leave unchanged -/

/-- A step that goes on leaves the configuration and the earlier responses alone, takes at most the head of the host's
list, and keeps the sum of requests waiting and responses received: an idle step and a reset change neither number, an
answered request moves one from the first to the second. -/
theorem step_frame {s t : State} (h : step s = .next t) :
    t.config = s.config ∧ t.inputs = s.inputs.tail ∧ s.responses <+: t.responses ∧
      t.waiting + t.responses.length = s.waiting + s.responses.length := by
  obtain ⟨-, ⟨hin, rfl⟩ | ⟨cut, rest, hin, rfl⟩ | ⟨p, rest, i, hin, -, -, rfl⟩⟩ := step_next h
  · have htail : t.inputs = t.inputs.tail := by rw [hin, List.tail_nil]
    exact ⟨rfl, htail, List.prefix_rfl, rfl⟩
  · have htail : rest = s.inputs.tail := by rw [hin, List.tail_cons]
    exact ⟨rfl, htail, List.prefix_rfl, by rw [State.waiting_of_reset hin]⟩
  · have htail : rest = s.inputs.tail := by rw [hin, List.tail_cons]
    refine ⟨rfl, htail, State.responses_prefix_answer _ _, ?_⟩
    rw [State.answer_waiting, State.length_responses_answer, State.waiting_of_request hin]
    exact (Nat.add_right_comm _ 1 s.responses.length).symm

/-- An instruction that completes leaves the configuration, the host's list and the earlier responses alone, and adds one
response. -/
theorem exec_frame {i : Instr} {s t : State} (h : exec i s = .next t) :
    t.config = s.config ∧ t.inputs = s.inputs ∧ s.responses <+: t.responses ∧
      t.responses.length = s.responses.length + 1 := by
  obtain ⟨-, -, rfl⟩ := exec_next h
  exact ⟨s.answer_config _, s.answer_inputs _, s.responses_prefix_answer _, s.length_responses_answer _⟩

/-- Settles O14: the frame of a step, and the frame of an instruction. -/
theorem nothingIsWrittenAndEachRequestIsAnsweredOnce : Obligations.NothingIsWrittenAndEachRequestIsAnsweredOnce :=
  ⟨fun _ _ => step_frame, fun _ _ _ => exec_frame⟩

end Sys2Proof.Machine
end

section
/-! Proofs of the statements of 20_memory.md. First what `Answers` says through the response of an instruction; then the
requests, the table entries that are never read, and the bit scan, the logarithm and the exponential of layers 1 and 2. -/

namespace Sys2Proof

open Machine

/-! ### What an instruction answers -/

/-- An instruction answers exactly its response: the statements of every layer are about `response` (R1, R30). -/
theorem Machine.answers_iff {s : State} {i : Instr} {r : Packet} :
    Answers s i r ↔ i.wellFormed = true ∧ s.config.valid = true ∧ r = response s.config i := by
  constructor
  · intro h
    obtain ⟨hwf, hv, ht⟩ := exec_next h
    have hresp : s.responses ++ [r] = s.responses ++ [response s.config i] := congrArg State.responses ht
    exact ⟨hwf, hv, List.singleton_inj.1 (List.append_cancel_left hresp)⟩
  · rintro ⟨hwf, hv, rfl⟩
    exact (exec_of_wellFormed hwf s).trans (State.respond_of_valid hv _)

/-! ### One legal request -/

/-- Settles O7: the step transacts the head request, and a transaction executes what the packet decodes to. -/
theorem Machine.stepRunsDecodedInstruction : Obligations.StepRunsDecodedInstruction :=
  fun _ _ _ _ hv hin hi => (step_of_request hv hin).trans (transact_of_decode hi _)

/-- The operand words of `o` make an instruction of the operation `o`. -/
@[simp] theorem Op.instr_op (o : Op) (ws : List Word) : (o.instr ws).op = o := by
  cases o <;> rfl

theorem op_of_decodeOperands {o : Op} {ws : List Word} {i : Instr} (h : decodeOperands o ws = .instr i) : i.op = o := by
  unfold decodeOperands at h
  split_ifs at h
  cases h
  exact o.instr_op ws

/-- A request that is legal for `o` decodes to no instruction of another operation (R31). -/
theorem LegalFor.op_of_decode {o : Op} {p : Packet} (hp : LegalFor o p) {i : Instr} (hi : decode p = .instr i) :
    i.op = o := by
  obtain ⟨h, ws, rfl, hop, hrsvd, -, -⟩ := hp
  exact op_of_decodeOperands ((decode_of_header hop hrsvd ws).symm.trans hi)

/-- The response to a legal request has the number of words R31 gives its operation. -/
theorem LegalFor.length_requestResponse {o : Op} {p : Packet} (hp : LegalFor o p) (c : Config) :
    (requestResponse c p).length = o.nres := by
  obtain ⟨i, hi, -⟩ := decode_of_legalRequest ⟨o, hp⟩
  rw [requestResponse_of_decode hi, response_length, hp.op_of_decode hi]

/-- Settles O9: the response is `requestResponse`. -/
theorem Machine.everyLegalRequestIsAnswered : Obligations.EveryLegalRequestIsAnswered := by
  rintro ⟨c, _, done⟩ o p rest hv rfl hp
  exact ⟨requestResponse c p, hp.length_requestResponse c, step_of_legalRequest hv ⟨o, hp⟩ rest done⟩

/-! ### The logarithm in closed form (R36, R37) -/

namespace Machine

/-- The top 8 bits of `v`, the leading one among them: the mantissa of R36 and the index of `LOG2_ROM`. -/
def topBits (v : Nat) : Nat :=
  v * 128 / 2 ^ Nat.log2 v

theorem mantissa_eq_topBits {v : Nat} (h₀ : v ≠ 0) : mantissa (Nat.log2 v : Int) v = topBits v :=
  (mantissa_eq h₀).1

theorem topBits_bounds {v : Nat} (h₀ : v ≠ 0) : 128 ≤ topBits v ∧ topBits v < 256 :=
  mantissa_eq_topBits h₀ ▸ (mantissa_eq h₀).2

/-- Above bit 7 the top 8 bits are what is left when the low ones are dropped. -/
theorem div_eq_topBits {v n : Nat} (h₀ : v ≠ 0) (hn : Nat.log2 v = n + 7) : v / 2 ^ n = topBits v := by
  rw [← mantissa_eq_topBits h₀, hn, mantissa, if_pos (by omega)]
  congr 2
  omega

/-- What interpolation adds to the table entry: the bits below the top 8 place the result on the line to the next entry
(R37). -/
def log2Rest (c : Config) (v : Nat) : Int :=
  if c.logInterp = true ∧ 7 < Nat.log2 v then
    asr ((log2Next c (topBits v) - tableRead c.log2Rom (topBits v)) * (v % 2 ^ (Nat.log2 v - 7) : Nat)) (Nat.log2 v - 7)
  else 0

/-- The logarithm of a non-zero word, for both values of `LOG_INTERP`: exponent, table entry, interpolation. -/
theorem log2Fixed_eq {c : Config} (hc : c.valid = true) {v : Nat} (h₀ : v ≠ 0) (hv : v < 2 ^ 32) :
    log2Fixed c v =
      ((Nat.log2 v : Int) - 7) * 2 ^ c.lq + tableRead c.log2Rom (topBits v) + log2Rest c v := by
  unfold log2Fixed log2Rest
  rw [if_neg h₀]
  cases hi : c.logInterp with
  | false => simp [log2Plain_eq hc h₀ hv, topBits]
  | true =>
    simp only [log2Interp, bitscan_eq hc hv, if_neg h₀, if_true, true_and, mantissa_eq_topBits h₀]
    by_cases h7 : Nat.log2 v ≤ 7
    · rw [if_pos (by omega), if_neg (by omega), add_zero]
    · obtain ⟨n, hn⟩ : ∃ n, Nat.log2 v = n + 7 := ⟨Nat.log2 v - 7, by omega⟩
      have hnb : ((Nat.log2 v : Int) - 7).toNat = n := by omega
      rw [if_neg (by omega), if_pos (by omega), hnb, div_eq_topBits h₀ hn, hn, Nat.add_sub_cancel]

end Machine

/-! ### The unspecified table entries -/

/-- A signed operand (`s32_bounds`) or a narrowed value (`sat32_bounds`): what every logarithm of layers 3 to 6 is taken
of. -/
abbrev Machine.FitsS32 (z : Int) : Prop :=
  -2147483648 ≤ z ∧ z ≤ 2147483647

/-- The guarded denominator of R69 and R71 still fits a signed word. -/
theorem Machine.guardZero_fits {z : Int} (hz : FitsS32 z) : FitsS32 (guardZero z) := by
  unfold guardZero
  split_ifs
  · decide
  · exact hz

namespace Config.SameSpecified

variable {c d : Config} (h : c.SameSpecified d)

include h

theorem lq_same : d.lq = c.lq := by
  obtain ⟨m0, l0, rfl, -⟩ := h
  rfl

theorem logInterp_same : d.logInterp = c.logInterp := by
  obtain ⟨m0, l0, rfl, -⟩ := h
  rfl

/-- `MSB8` differs at entry 0 at most (R16). -/
theorem read_msb8 {b : Nat} (hb : b ≠ 0) : tableRead d.msb8 b = tableRead c.msb8 b := by
  obtain ⟨m0, l0, rfl, -⟩ := h
  obtain ⟨n, rfl⟩ := Nat.exists_eq_succ_of_ne_zero hb
  simp [tableRead, List.getD_eq_getElem?_getD]

/-- `LOG2_ROM` differs below entry 128 at most (R18). -/
theorem read_log2Rom {m : Nat} (hm : 128 ≤ m) : tableRead d.log2Rom m = tableRead c.log2Rom m := by
  obtain ⟨m0, l0, rfl, hl⟩ := h
  simp [tableRead, List.getD_eq_getElem?_getD, List.getElem?_append_right (hl ▸ hm), hl, hm]

/-- Validity asks nothing of the unspecified entries (R9). -/
theorem valid (hc : c.valid = true) : d.valid = true := by
  obtain ⟨m0, l0, rfl, hl⟩ := h
  obtain ⟨hparams, hmsb, hlog, hrest⟩ := (Config.valid_iff c).1 hc
  refine (Config.valid_iff _).2 ⟨hparams, ?_, ?_, hrest⟩
  · simp only [Config.msb8Legal, Bool.and_eq_true, decide_eq_true_eq] at hmsb ⊢
    obtain ⟨hlen, hentries⟩ := hmsb
    rw [List.drop_succ_cons, List.drop_zero, List.length_cons, List.length_drop, hlen]
    exact ⟨rfl, hentries⟩
  · simp only [Config.log2Legal, Bool.and_eq_true, decide_eq_true_eq] at hlog ⊢
    simp [hl, hlog]

/-- The exponential reads no table that differs (R38, R39). -/
theorem exp2z_same (y : Int) : exp2z d y = exp2z c y := by
  obtain ⟨m0, l0, rfl, -⟩ := h
  rfl

theorem m3euler_same (ax ay az : Nat) : m3euler d ax ay az = m3euler c ax ay az := by
  obtain ⟨m0, l0, rfl, -⟩ := h
  rfl

theorem fromLog32_same (a : Log32 Int) : fromLog32 d a = fromLog32 c a := by
  simp only [fromLog32, h.exp2z_same]

theorem lseRead_same (delta : Nat) :
    tableRead d.lseRom (lseIndex d delta) = tableRead c.lseRom (lseIndex c delta) := by
  obtain ⟨m0, l0, rfl, -⟩ := h
  rfl

/-- The byte scan reads `MSB8` at a byte that is not zero (R35). -/
theorem bitscan_same (v : Nat) : bitscan d v = bitscan c v := by
  simp only [bitscan]
  split_ifs with h3 h2 h1 h0
  · rw [h.read_msb8 h3]
  · rw [h.read_msb8 h2]
  · rw [h.read_msb8 h1]
  · rw [h.read_msb8 h0]
  · rfl

theorem log2Next_same {m : Nat} (hm : 128 ≤ m) : log2Next d m = log2Next c m := by
  simp only [log2Next, h.read_log2Rom (le_refl 128), h.read_log2Rom (Nat.le_succ_of_le hm), h.lq_same]

variable (hc : c.valid = true)

include hc

/-- The logarithm reads `LOG2_ROM` at the top 8 bits of a word and at the next entry, both at least 128 (R36, R37). -/
theorem log2Fixed_same {v : Nat} (hv : v < 2 ^ 32) : log2Fixed d v = log2Fixed c v := by
  by_cases h₀ : v = 0
  · subst h₀
    rfl
  · have hm := (topBits_bounds h₀).1
    simp only [log2Fixed_eq hc h₀ hv, log2Fixed_eq (h.valid hc) h₀ hv, log2Rest, h.read_log2Rom hm, h.log2Next_same hm,
      h.lq_same, h.logInterp_same]

/-- The same for the magnitude of a signed operand or of a narrowed value, which fits a word. -/
theorem log2Fixed_natAbs_same {a : Int} (ha : FitsS32 a) :
    log2Fixed d a.natAbs = log2Fixed c a.natAbs :=
  h.log2Fixed_same hc (by omega)

theorem log2Fixed_toNat_same {a : Int} (ha : FitsS32 a) :
    log2Fixed d a.toNat = log2Fixed c a.toNat :=
  h.log2Fixed_same hc (by omega)

theorem mulApprox_same (a b : Word) : mulApprox d (u32 a) (u32 b) = mulApprox c (u32 a) (u32 b) := by
  simp only [mulApprox, h.log2Fixed_same hc (u32_lt _), h.exp2z_same]

theorem divApprox_same (n k : Word) : divApprox d (u32 n) (u32 k) = divApprox c (u32 n) (u32 k) := by
  simp only [divApprox, h.log2Fixed_same hc (u32_lt _), h.exp2z_same]

theorem powApprox_same (a k : Word) : powApprox d (u32 a) (s32 k) = powApprox c (u32 a) (s32 k) := by
  simp only [powApprox, h.log2Fixed_same hc (u32_lt _), h.exp2z_same]

theorem qmulApprox_same (a b : Word) : qmulApprox d (s32 a) (s32 b) = qmulApprox c (s32 a) (s32 b) := by
  simp only [qmulApprox, h.log2Fixed_natAbs_same hc (s32_bounds _), h.exp2z_same, h.lq_same]

theorem qdivApprox_same (n k : Word) : qdivApprox d (s32 n) (s32 k) = qdivApprox c (s32 n) (s32 k) := by
  simp only [qdivApprox, h.log2Fixed_natAbs_same hc (s32_bounds _), h.exp2z_same, h.lq_same]

theorem qSqrt_same {x : Int} (hx : FitsS32 x) : qSqrt d x = qSqrt c x := by
  simp only [qSqrt, h.log2Fixed_toNat_same hc hx, h.exp2z_same, h.lq_same]

theorem qInverseSqrt_same {x : Int} (hx : FitsS32 x) : qInverseSqrt d x = qInverseSqrt c x := by
  simp only [qInverseSqrt, h.log2Fixed_toNat_same hc hx, h.exp2z_same, h.lq_same]

theorem v3len_same (v : Vec3 Int) : v3len d v = v3len c v :=
  h.qSqrt_same hc (sat32_bounds _)

theorem v3norm_same (v : Vec3 Int) : v3norm d v = v3norm c v :=
  congrArg (v3scale v) (h.qInverseSqrt_same hc (sat32_bounds _))

theorem quatNorm_same (q : Quat Int) : quatNorm d q = quatNorm c q := by
  simp only [quatNorm, h.qInverseSqrt_same hc (sat32_bounds _)]

theorem ratioApprox_same {x f k : Int} (hx : FitsS32 x) (hf : FitsS32 f) (hk : FitsS32 k) :
    ratioApprox d x f k = ratioApprox c x f k := by
  simp only [ratioApprox, h.log2Fixed_natAbs_same hc hx, h.log2Fixed_natAbs_same hc hf, h.log2Fixed_natAbs_same hc hk,
    h.exp2z_same]

/-- The numerators are components of a narrowed sum, the denominator is narrowed and guarded (R70, R71). -/
theorem pipelineMvpFused_same (v : Vec3 Int) (scale : Int) (ax ay az : Nat) (t : Vec3 Int) (focal : Word) :
    pipelineMvpFused d v scale ax ay az t (s32 focal) = pipelineMvpFused c v scale ax ay az t (s32 focal) := by
  have hguard (z : Int) := guardZero_fits (sat32_bounds z)
  have hsum (z : Int) (k : Int) := h.ratioApprox_same hc (sat32_bounds z) (s32_bounds focal) (hguard k)
  simp only [pipelineMvpFused, mvpView, h.m3euler_same, v3add, hsum]

theorem toLog32_same {v : Int} (hv : FitsS32 v) : toLog32 d v = toLog32 c v := by
  simp only [toLog32, h.log2Fixed_natAbs_same hc hv]

/-- Unlike signs are added in the linear domain, and the narrowed sum goes back to a logarithm (R77). -/
theorem log32Add_same (a b : Log32 Int) : log32Add d a b = log32Add c a b := by
  simp only [log32Add, h.toLog32_same hc (sat32_bounds _), h.fromLog32_same, h.lseRead_same]

/-- No operation reads an unspecified entry: those that take no logarithm and scan no bits do not read these two tables. -/
theorem response_same (i : Instr) : response d i = response c i := by
  cases i
  case bitscan v => exact congrArg scalarOut (h.bitscan_same (u32 v))
  case log2 v => exact congrArg scalarOut (h.log2Fixed_same hc (u32_lt v))
  case mulApprox a b => exact congrArg scalarOut (h.mulApprox_same hc a b)
  case divApprox n k => exact congrArg scalarOut (h.divApprox_same hc n k)
  case powApprox a k => exact congrArg scalarOut (h.powApprox_same hc a k)
  case qmulApprox a b => exact congrArg scalarOut (h.qmulApprox_same hc a b)
  case qdivApprox n k => exact congrArg scalarOut (h.qdivApprox_same hc n k)
  case sqrt x => exact congrArg scalarOut (h.qSqrt_same hc (s32_bounds x))
  case inverseSqrt x => exact congrArg scalarOut (h.qInverseSqrt_same hc (s32_bounds x))
  case vec3Length v => exact congrArg scalarOut (h.v3len_same hc (vec3In v))
  case vec3Normalize v => exact congrArg vec3Out (h.v3norm_same hc (vec3In v))
  case quatNormalize q => exact congrArg quatOut (h.quatNorm_same hc (quatIn q))
  case pipelineMvpFused => exact congrArg vec3Out (h.pipelineMvpFused_same hc _ _ _ _ _ _ _)
  case toLog32 v => exact congrArg log32Out (h.toLog32_same hc (s32_bounds v))
  case log32Add a b => exact congrArg log32Out (h.log32Add_same hc (log32Read a) (log32Read b))
  all_goals
    obtain ⟨m0, l0, rfl, -⟩ := h
    rfl

end Config.SameSpecified

/-- Settles O12: the configuration stays valid and every response the same. -/
theorem Machine.unspecifiedEntriesAreNeverRead : Obligations.UnspecifiedEntriesAreNeverRead := by
  intro s d i r hsame hans
  obtain ⟨hwf, hc, rfl⟩ := answers_iff.1 hans
  exact answers_iff.2 ⟨hwf, hsame.valid hc, (hsame.response_same hc i).symm⟩

namespace Machine

/-! ### The bit scan -/

/-- The closed form of `bitscan`, with the bit named by its bounds (R35). -/
theorem bitscan_of_bounds {c : Config} (hc : c.valid = true) {v e : Nat} (hv : v < 2 ^ 32) (h₁ : 2 ^ e ≤ v)
    (h₂ : v < 2 ^ (e + 1)) : bitscan c v = e := by
  have h₀ : v ≠ 0 := fun h => absurd h₁ (by simp [h])
  rw [bitscan_eq hc hv, if_neg h₀, (Nat.log2_eq_iff h₀).2 ⟨h₁, h₂⟩]

/-- Settles O19: the response is the bit scan's word. -/
theorem bitscanIsFloorLog2 : Obligations.BitscanIsFloorLog2 := by
  intro s v hc
  refine ⟨rfl, ?_, fun e h₁ h₂ => ?_⟩
  · rintro rfl
    have hresp : response s.config (.bitscan 0#32) = [word (-1)] := rfl
    exact answers_iff.2 ⟨rfl, hc, hresp.symm⟩
  · have hscan := bitscan_of_bounds hc v.isLt h₁ h₂
    have hresp : response s.config (.bitscan v) = [BitVec.ofNat 32 e] := by
      rw [response, scalarOut, u32, hscan, word, BitVec.ofInt_natCast]
    exact answers_iff.2 ⟨rfl, hc, hresp.symm⟩

/-! ### The logarithm is monotonic -/

section Monotone

variable {c : Config} (hm : c.Log2Monotone)

include hm

/-- The specified part of `LOG2_ROM` is non-decreasing (R18). -/
theorem read_log2Rom_mono {m n : Nat} (h₁ : 128 ≤ m) (hmn : m ≤ n) (h₂ : n < 256) :
    tableRead c.log2Rom m ≤ tableRead c.log2Rom n := by
  induction n, hmn using Nat.le_induction with
  | base => exact le_rfl
  | succ n hn ih => exact (ih (by omega)).trans (hm.1 n (by omega) (by omega))

theorem read_log2Rom_le_next {m : Nat} (h₁ : 128 ≤ m) (h₂ : m < 256) : tableRead c.log2Rom m ≤ log2Next c m := by
  unfold log2Next
  split_ifs with h255
  · exact h255 ▸ hm.2
  · exact hm.1 m h₁ (by omega)

/-- The next point of the line is no higher than any later entry of the same octave. -/
theorem log2Next_le_read {m n : Nat} (h₁ : 128 ≤ m) (hmn : m < n) (h₂ : n < 256) :
    log2Next c m ≤ tableRead c.log2Rom n := by
  rw [log2Next, if_neg (by omega)]
  exact read_log2Rom_mono hm (by omega) hmn h₂

/-- The next point of the line is no higher than the first entry of the next octave. -/
theorem log2Next_le_octave {m : Nat} (h₁ : 128 ≤ m) (h₂ : m < 256) :
    log2Next c m ≤ tableRead c.log2Rom 128 + 2 ^ c.lq := by
  unfold log2Next
  split_ifs with h255
  · exact le_rfl
  · exact (read_log2Rom_mono hm (by omega) (by omega : m + 1 ≤ 255) (by decide)).trans hm.2

/-- The interpolated point lies between its entry and the next one. -/
theorem log2Rest_bounds {v : Nat} (h₀ : v ≠ 0) :
    0 ≤ log2Rest c v ∧ tableRead c.log2Rom (topBits v) + log2Rest c v ≤ log2Next c (topBits v) := by
  obtain ⟨h₁, h₂⟩ := topBits_bounds h₀
  have hle := read_log2Rom_le_next hm h₁ h₂
  unfold log2Rest
  split_ifs
  · have := asr_mul_bounds (d := log2Next c (topBits v) - tableRead c.log2Rom (topBits v))
      (Nat.mod_lt v (Nat.two_pow_pos (Nat.log2 v - 7)))
    omega
  · omega

/-- Between two words with the same leading bit and the same top 8 bits only the bits below decide. -/
theorem log2Rest_mono {v₁ v₂ : Nat} (h₀ : v₁ ≠ 0) (hv : v₁ ≤ v₂) (hlog : Nat.log2 v₁ = Nat.log2 v₂)
    (htop : topBits v₁ = topBits v₂) : log2Rest c v₁ ≤ log2Rest c v₂ := by
  obtain ⟨h₁, h₂⟩ := topBits_bounds h₀
  have hd := sub_nonneg.2 (read_log2Rom_le_next hm h₁ h₂)
  unfold log2Rest
  rw [← hlog, ← htop]
  split_ifs with hi
  · obtain ⟨n, hn⟩ : ∃ n, Nat.log2 v₁ = n + 7 := ⟨Nat.log2 v₁ - 7, by omega⟩
    have hdiv : v₁ / 2 ^ n = v₂ / 2 ^ n :=
      (div_eq_topBits h₀ hn).trans (htop.trans (div_eq_topBits (by omega) (hlog ▸ hn)).symm)
    have hmod : v₁ % 2 ^ n ≤ v₂ % 2 ^ n := by
      have e₁ := Nat.div_add_mod v₁ (2 ^ n)
      have e₂ := Nat.div_add_mod v₂ (2 ^ n)
      rw [hdiv] at e₁
      omega
    rw [hn, Nat.add_sub_cancel]
    exact Int.ediv_le_ediv (by positivity) (mul_le_mul_of_nonneg_left (by exact_mod_cast hmod) hd)
  · exact le_rfl

/-- Two words differ in the leading bit, or in the top 8 bits, or only below: in the first two cases a whole step of the
line lies between their logarithms. -/
theorem log2Fixed_mono (hc : c.valid = true) {v₁ v₂ : Nat} (h₀ : v₁ ≠ 0) (hlt : v₁ < v₂) (hv : v₂ < 2 ^ 32) :
    log2Fixed c v₁ ≤ log2Fixed c v₂ := by
  have h₀' : v₂ ≠ 0 := by omega
  have ht₁ := topBits_bounds h₀
  have ht₂ := topBits_bounds h₀'
  have hr₁ := log2Rest_bounds hm h₀
  have hr₂ := log2Rest_bounds hm h₀'
  rw [log2Fixed_eq hc h₀ (hlt.trans hv), log2Fixed_eq hc h₀' hv]
  have hle : Nat.log2 v₁ ≤ Nat.log2 v₂ := by
    simpa only [Nat.log2_eq_log_two] using Nat.log_mono_right hlt.le
  rcases hle.lt_or_eq with hlog | hlog
  · have hstep := log2Next_le_octave hm ht₁.1 ht₁.2
    have hentry := read_log2Rom_mono hm le_rfl ht₂.1 ht₂.2
    have hexp : ((Nat.log2 v₁ : Int) - 7) * 2 ^ c.lq + 2 ^ c.lq ≤ ((Nat.log2 v₂ : Int) - 7) * 2 ^ c.lq := by
      rw [← add_one_mul]
      exact Int.mul_le_mul_of_nonneg_right (by omega) (by positivity)
    omega
  · have htop : topBits v₁ ≤ topBits v₂ := by
      unfold topBits
      rw [hlog]
      exact Nat.div_le_div_right (Nat.mul_le_mul_right _ hlt.le)
    rw [hlog]
    rcases htop.lt_or_eq with htop | htop
    · have hstep := log2Next_le_read hm ht₁.1 htop ht₂.2
      omega
    · have hrest := log2Rest_mono hm h₀ hlt.le hlog htop
      rw [htop]
      omega

end Monotone

/-- The response of LOG2 reads back as the logarithm itself (R40). -/
theorem toInt_word_log2Fixed {c : Config} (hc : c.valid = true) {v : Nat} (h₀ : v ≠ 0) (hv : v < 2 ^ 32) :
    (word (log2Fixed c v)).toInt = log2Fixed c v := by
  have hb := log2Fixed_bounds hc h₀ hv
  have hlq := two_pow_lq_le hc
  exact s32_word (by omega) (by omega)

/-- Settles O22: the words read back as logarithms, and these are monotonic. -/
theorem log2IsMonotonic : Obligations.Log2IsMonotonic := by
  intro s v₁ v₂ hc hm hne hlt
  have h₀ : v₁.toNat ≠ 0 := fun h => hne (BitVec.eq_of_toNat_eq h)
  refine ⟨_, _, answers_iff.2 ⟨rfl, hc, rfl⟩, answers_iff.2 ⟨rfl, hc, rfl⟩, ?_⟩
  rw [u32, u32, toInt_word_log2Fixed hc h₀ v₁.isLt, toInt_word_log2Fixed hc (by omega) v₂.isLt]
  exact log2Fixed_mono hm hc h₀ hlt v₂.isLt

/-! ### Where the exponential is 0 and where it saturates -/

/-- What is left of `y` above its floor is a fraction of `LQ` bits. -/
theorem fraction_lt (y : Int) (n : Nat) : (y - asr y n * 2 ^ n).toNat < 2 ^ n := by
  have hp : (0 : Int) < 2 ^ n := by positivity
  have hmod : y - asr y n * 2 ^ n = y % 2 ^ n := by
    rw [asr, Int.emod_def, mul_comm]
  rw [hmod, Int.toNat_lt (Int.emod_nonneg y hp.ne')]
  exact_mod_cast Int.emod_lt_of_pos y hp

theorem shiftClamped_natCast (t : Int) (k : Nat) : shiftClamped t k = min (t * 2 ^ min k 32) u32Max := by
  simp [shiftClamped]

theorem shiftClamped_neg_natCast (t : Int) {k : Nat} (hk : 0 < k) :
    shiftClamped t (-k) = min (t / 2 ^ min k 32) u32Max := by
  rw [shiftClamped, if_neg (by omega), neg_neg, Int.toNat_natCast]

section Shift

variable {t i : Int} {n : Nat} (hn : n ≤ 16) (h₁ : 2 ^ n ≤ t) (h₂ : t < 2 ^ (n + 1))

include hn h₁ h₂

/-- Below exponent 32 the scaled power, shifted up, does not reach the largest word: bits are left over below it. -/
theorem scaled_lt {k : Nat} (hk : n + k < 32) : t * 2 ^ k < u32Max := by
  have hspare : (2 : Int) ^ 1 ≤ 2 ^ (31 - n) := pow_le_pow_right₀ one_le_two (by omega)
  have htop : (t + 1) * 2 ^ (31 - n) ≤ 2 ^ 32 := by
    calc (t + 1) * 2 ^ (31 - n) ≤ 2 ^ (n + 1) * 2 ^ (31 - n) := mul_le_mul_of_nonneg_right h₂ (by positivity)
      _ = 2 ^ 32 := by rw [← pow_add]; congr 1; omega
  have hle : t * 2 ^ k ≤ t * 2 ^ (31 - n) :=
    mul_le_mul_of_nonneg_left (pow_le_pow_right₀ one_le_two (by omega)) (le_trans (by positivity) h₁)
  rw [add_one_mul] at htop
  change _ < (4294967295 : Int)
  omega

omit hn h₂ in
/-- From exponent 32 on it passes every word. -/
theorem two_pow_32_le_scaled {k : Nat} (hk : 32 ≤ n + k) : 2 ^ 32 ≤ t * 2 ^ k := by
  calc (2 : Int) ^ 32 ≤ 2 ^ n * 2 ^ k := by rw [← pow_add]; exact pow_le_pow_right₀ one_le_two hk
    _ ≤ t * 2 ^ k := mul_le_mul_of_nonneg_right h₁ (by positivity)

/-- A scaled power shifted up by `i - n` is positive, and saturates exactly when `i` is 32 or more. -/
theorem shiftClamped_up (hi : (n : Int) ≤ i) :
    0 < shiftClamped t (i - n) ∧ (shiftClamped t (i - n) = u32Max ↔ 32 ≤ i) := by
  obtain ⟨k, hk⟩ : ∃ k : Nat, i - n = k := Int.eq_ofNat_of_zero_le (by omega)
  have ht : 0 < t := lt_of_lt_of_le (by positivity) h₁
  rw [hk, shiftClamped_natCast]
  refine ⟨lt_min (by positivity) (by decide), ?_⟩
  rw [min_eq_right_iff]
  constructor
  · intro hmax
    by_contra hlt
    have hbelow := scaled_lt hn h₁ h₂ (k := min k 32) (by omega)
    exact absurd hmax (not_le.2 hbelow)
  · intro hge
    exact le_trans (by decide) (two_pow_32_le_scaled h₁ (k := min k 32) (by omega))

/-- A scaled power shifted down by `n - i` stays below saturation, and nothing is left of it exactly when `i` is
negative. -/
theorem shiftClamped_down (hi : i < n) :
    (shiftClamped t (i - n) = 0 ↔ i < 0) ∧ shiftClamped t (i - n) < u32Max := by
  obtain ⟨k, hk⟩ : ∃ k : Nat, n - i = k := Int.eq_ofNat_of_zero_le (by omega)
  have ht : 0 ≤ t := le_trans (by positivity) h₁
  have hquot : t / 2 ^ min k 32 < u32Max := by
    have hself := Int.ediv_le_self (2 ^ min k 32) ht
    have hroom : (2 : Int) ^ (n + 1) ≤ 2 ^ 17 := pow_le_pow_right₀ one_le_two (by omega)
    change _ < (4294967295 : Int)
    omega
  rw [show i - n = -(k : Int) by omega, shiftClamped_neg_natCast t (by omega), min_eq_left hquot.le]
  refine ⟨?_, hquot⟩
  constructor
  · intro hzero
    by_contra hnonneg
    have hpow : (2 : Int) ^ min k 32 ≤ 2 ^ n := pow_le_pow_right₀ one_le_two (by omega)
    have hone : 1 ≤ t / 2 ^ min k 32 := (Int.le_ediv_iff_mul_le (by positivity)).2 (by omega)
    omega
  · intro hneg
    have hpow : (2 : Int) ^ (n + 1) ≤ 2 ^ min k 32 := pow_le_pow_right₀ one_le_two (by omega)
    exact Int.ediv_eq_zero_of_lt ht (by omega)

end Shift

/-- On a valid configuration whose fractions stay below 2, `exp2z` is 0 exactly below exponent 0 and saturates exactly
from exponent 32 on (R38, R39). -/
theorem exp2z_clamps {c : Config} (hc : c.valid = true)
    (hfirst : c.logInterp = true → c.lq ≠ 8 → c.exp2Rom[0]? = some (2 ^ c.eq)) (y : Int) :
    (exp2z c y = 0 ↔ asr y c.lq < 0) ∧ (exp2z c y = u32Max ↔ 32 ≤ asr y c.lq) := by
  have hEq := (Config.params_of_valid hc).eq.2
  have hf := fraction_lt y c.lq
  have hge := exp2Fraction_ge hc hf
  have hlt := exp2Fraction_lt hc hfirst hf
  rw [exp2z]
  rcases le_or_gt (c.eq : Int) (asr y c.lq) with hi | hi
  · obtain ⟨hpos, hmax⟩ := shiftClamped_up hEq hge hlt hi
    exact ⟨⟨fun h => absurd h hpos.ne', by omega⟩, hmax⟩
  · obtain ⟨hzero, hbelow⟩ := shiftClamped_down hEq hge hlt hi
    exact ⟨hzero, ⟨fun h => absurd h hbelow.ne, by omega⟩⟩

/-- Two values of 32 bits are equal when their words are. -/
theorem word_inj {a b : Int} (ha : 0 ≤ a ∧ a ≤ 4294967295) (hb : 0 ≤ b ∧ b ≤ 4294967295) :
    word a = word b ↔ a = b := by
  refine ⟨fun h => ?_, congrArg word⟩
  rw [← u32_word ha.1 ha.2, h, u32_word hb.1 hb.2]

/-- Settles O25: the response has 32 bits, and the floor of `y / 2^LQ` is negative, or 32 at least, exactly when `y` is
negative, or `32 * 2^LQ` at least. -/
theorem exp2ClampsExactlyOutsideItsRange : Obligations.Exp2ClampsExactlyOutsideItsRange := by
  intro s y hc hfirst
  have hp : (0 : Int) < 2 ^ s.config.lq := by positivity
  have hbounds := exp2z_bounds hc (s32 y)
  obtain ⟨hzero, hmax⟩ := exp2z_clamps hc hfirst (s32 y)
  refine ⟨word (exp2z s.config (s32 y)), answers_iff.2 ⟨rfl, hc, rfl⟩, ?_, ?_⟩
  · calc word (exp2z s.config (s32 y)) = 0#32 ↔ exp2z s.config (s32 y) = 0 := word_inj (b := 0) hbounds (by decide)
      _ ↔ asr (s32 y) s.config.lq < 0 := hzero
      _ ↔ y.toInt < 0 := by rw [asr, Int.ediv_lt_iff_lt_mul hp, zero_mul, s32]
  · calc word (exp2z s.config (s32 y)) = 0xFFFFFFFF#32 ↔ exp2z s.config (s32 y) = u32Max :=
          word_inj (b := u32Max) hbounds (by decide)
      _ ↔ 32 ≤ asr (s32 y) s.config.lq := hmax
      _ ↔ 32 * 2 ^ s.config.lq ≤ y.toInt := by rw [asr, Int.le_ediv_iff_mul_le hp, s32]

end Machine

end Sys2Proof
end

section
/-! Proofs of the statements of 30_encoding.md. First how operations, operand words and the header word go into a packet
and out of it again, each said once; then the encoder against the decoder, the decoder against R34, and what the machine
does with a legal and with an illegal request. -/

namespace Sys2Proof

open Machine

/-! ### The operation table (R31) -/

theorem Op.code_injective {o o' : Op} (h : o.code = o'.code) : o = o' :=
  Option.some.inj (o.ofCode_code.symm.trans ((congrArg Op.ofCode h).trans o'.ofCode_code))

theorem Op.mem_all (o : Op) : o ∈ Op.all :=
  List.mem_of_find?_eq_some o.ofCode_code

/-- Settles O5: looking a code up gives its operation back, so codes differ and no operation is missing from the
table; what is left is the table itself. -/
theorem operationTable : Obligations.OperationTable :=
  ⟨rfl, Op.mem_all, fun _ _ => Op.code_injective, rfl, by decide, by decide, by decide, by decide, by decide,
    by decide⟩

/-- A code names the operation it is the code of, and no other (R31). -/
theorem Op.ofCode_eq_some_iff {n : Nat} {o : Op} : Op.ofCode n = some o ↔ o.code = n := by
  constructor
  · intro h
    have hfound := List.find?_some h
    exact beq_iff_eq.1 hfound
  · rintro rfl
    exact o.ofCode_code

theorem Op.code_lt (o : Op) : o.code < 256 := by
  cases o <;> decide

/-! ### The header word (R31) -/

theorem Op.toNat_header (o : Op) : o.header.toNat = o.code := by
  rw [Op.header, BitVec.toNat_ofNat]
  exact Nat.mod_eq_of_lt (o.code_lt.trans (by decide))

theorem Op.header_op (o : Op) : o.header.toNat % 256 = o.code := by
  rw [o.toNat_header, Nat.mod_eq_of_lt o.code_lt]

theorem Op.header_rsvd (o : Op) : o.header.toNat / 256 = 0 := by
  rw [o.toNat_header, Nat.div_eq_of_lt o.code_lt]

/-- The two fields are the whole header: the code fixes it once the reserved bits are zero. -/
theorem eq_header {h : Word} {o : Op} (hop : h.toNat % 256 = o.code) (hrsvd : h.toNat / 256 = 0) : h = o.header := by
  refine BitVec.eq_of_toNat_eq ?_
  rw [o.toNat_header]
  omega

/-! ### The operand words (R33) -/

/-- Reading the operand words of an instruction back gives the instruction: each operand stands where it is read. -/
@[simp] theorem Instr.instr_operands (i : Instr) : i.op.instr i.operands = i := by
  cases i <;> rfl

@[simp] theorem Instr.length_operands (i : Instr) : i.operands.length = i.op.nopnd := by
  cases i <;> rfl

theorem map_opndWord_range (ws : List Word) : (List.range ws.length).map (opndWord ws) = ws := by
  refine List.ext_getElem (by simp) fun k _ hk => ?_
  simp [opndWord, List.getElem?_eq_getElem hk]

/-- The instruction made of operand words holds the first `NOPND` of them, each once and in their order. -/
theorem Op.operands_instr_eq_map (o : Op) (ws : List Word) :
    (o.instr ws).operands = (List.range o.nopnd).map (opndWord ws) := by
  cases o <;> rfl

theorem Op.operands_instr {o : Op} {ws : List Word} (hlen : ws.length = o.nopnd) : (o.instr ws).operands = ws := by
  rw [o.operands_instr_eq_map, ← hlen, map_opndWord_range]

/-! ### The encoder and the decoder (R29, R34) -/

/-- Settles O1: the header of the packet names the operation, the word count is right, and reading the operand words
gives the instruction back. -/
theorem decodeOfEncode : Obligations.DecodeOfEncode := by
  intro i hwf
  have hlegal : decodeOperands i.op i.operands = .instr (i.op.instr i.operands) :=
    decodeOperands_of_legal i.length_operands (by rwa [i.instr_operands])
  calc decode (encode i)
      = decodeOperands i.op i.operands := decode_of_header i.op.header_op i.op.header_rsvd _
    _ = .instr (i.op.instr i.operands) := hlegal
    _ = .instr i := congrArg Decoded.instr i.instr_operands

/-- Everything that is true of operand words that decode (R34 (c), (d)). -/
theorem decodeOperands_eq_instr {o : Op} {ws : List Word} {i : Instr} (h : decodeOperands o ws = .instr i) :
    ws.length = o.nopnd ∧ i.wellFormed = true ∧ i = o.instr ws := by
  unfold decodeOperands at h
  split_ifs at h with hlen hwf
  cases h
  exact ⟨hlen, hwf, rfl⟩

/-- Everything that is true of a packet that decodes: its header is that of an operation, and its other words decode as
operands of that operation (R34 (a), (b)). -/
theorem decode_eq_instr {p : Packet} {i : Instr} (h : decode p = .instr i) :
    ∃ (o : Op) (ws : List Word), p = o.header :: ws ∧ decodeOperands o ws = .instr i := by
  unfold decode at h
  split at h
  next => cases h
  next hd ws =>
    split_ifs at h with hrsvd
    split at h
    next o ho =>
      have hop : hd.toNat % 256 = o.code := (headerOp_eq_mod hd).symm.trans (Op.ofCode_eq_some_iff.1 ho).symm
      exact ⟨o, ws, congrArg (· :: ws) (eq_header hop ((headerRsvd_eq_zero_iff hd).1 hrsvd)), h⟩
    next => cases h

/-- Settles O2: the header is fixed by the operation, and the operand words are those the instruction was made of. -/
theorem encodeOfDecode : Obligations.EncodeOfDecode := by
  intro p i h
  obtain ⟨o, ws, rfl, hws⟩ := decode_eq_instr h
  obtain ⟨hlen, hwf, rfl⟩ := decodeOperands_eq_instr hws
  exact ⟨hwf, by rw [encode, Op.instr_op, Op.operands_instr hlen]⟩

/-- The packet of a well-formed instruction breaks no clause of R34. -/
theorem legalFor_encode {i : Instr} (hwf : i.wellFormed = true) : LegalFor i.op (encode i) := by
  have hsign : ∀ k ∈ i.op.signPlaces, ringSignLegal (opndWord i.operands k) = true :=
    (i.op.instr_wellFormed_iff i.operands).1 (by rwa [i.instr_operands])
  exact ⟨_, _, rfl, i.op.header_op, i.op.header_rsvd, i.length_operands,
    fun k hk => (ringSignLegal_iff_toInt _).1 (hsign k hk)⟩

/-- Settles O3: a legal request decodes to an instruction of its operation, and what decodes is the packet of a
well-formed instruction, which is legal. -/
theorem decodeAcceptsExactlyLegalRequests : Obligations.DecodeAcceptsExactlyLegalRequests := by
  intro o p
  constructor
  · intro hp
    obtain ⟨i, hi, -⟩ := decode_of_legalRequest ⟨o, hp⟩
    exact ⟨i, hi, hp.op_of_decode hi⟩
  · rintro ⟨i, hi, rfl⟩
    obtain ⟨hwf, rfl⟩ := encodeOfDecode p i hi
    exact legalFor_encode hwf

/-! ### Legal and illegal requests in the machine (R30, R34) -/

namespace Machine

theorem transact_of_illegal {p : Packet} {why : Illegal} (h : decode p = .illegal why) (s : State) :
    transact p s = .refused (.illegalRequest why) := by
  simp only [transact, h]

/-- Settles O8: a packet the decoder accepts is a legal request, so an illegal one is rejected by it, and the step
refuses with the clause the decoder names. -/
theorem illegalRequestIsRefused : Obligations.IllegalRequestIsRefused := by
  intro s p rest hv hin hillegal
  cases hp : decode p with
  | instr i => exact absurd ⟨i.op, (decodeAcceptsExactlyLegalRequests i.op p).2 ⟨i, hp, rfl⟩⟩ hillegal
  | illegal why => exact ⟨why, (step_of_request hv hin).trans (transact_of_illegal hp _)⟩

/-- Settles O10: the response is `response`, which has the number of words R31 gives the operation. -/
theorem everyInstructionCompletes : Obligations.EveryInstructionCompletes :=
  fun s i hv hwf => ⟨response s.config i, response_length s.config i, answers_iff.2 ⟨hwf, hv, rfl⟩⟩

/-- The decoder's test of a LOG32 operand is the condition R33 states on its sign word. -/
theorem legal_iff_legalSign (a : Log32 Word) : a.legal = true ↔ LegalSign a.sign := by
  simp only [Log32.legal, ringSignLegal, LegalSign, Bool.or_eq_true, beq_iff_eq, or_assoc]

theorem legal_eq_false {a : Log32 Word} (h : ¬ LegalSign a.sign) : a.legal = false :=
  Bool.eq_false_iff.2 (mt (legal_iff_legalSign a).1 h)

/-- Settles O6: an instruction with such an operand is ill-formed, and `exec` refuses every ill-formed instruction. -/
theorem illegalSignIsRefused : Obligations.IllegalSignIsRefused := by
  intro s a b k
  constructor
  · intro ha
    have hill : a.legal = false := legal_eq_false ha
    exact ⟨exec_of_illFormed (i := .fromLog32 a) hill s, exec_of_illFormed (i := .log32Pow a k) hill s⟩
  · intro hab
    have hill : (a.legal && b.legal) = false := Bool.and_eq_false_iff.2 (hab.imp legal_eq_false legal_eq_false)
    exact ⟨exec_of_illFormed (i := .log32Mul a b) hill s, exec_of_illFormed (i := .log32Div a b) hill s,
      exec_of_illFormed (i := .log32Add a b) hill s⟩

end Machine

end Sys2Proof
end

section
/-! Proof of the statement of 40_bitscan.md: the example packets are those of the encoder, so that they decode follows
from the round trip and not from running the decoder on each. -/

namespace Sys2Proof

/-- The round trip of O1, read at a packet that is written out. -/
theorem decode_of_encode_eq {i : Instr} {p : Packet} (hwf : i.wellFormed = true) (hp : encode i = p) :
    decode p = .instr i :=
  hp ▸ decodeOfEncode i hwf

/-- Settles O4: each instruction is well-formed, the signs of the two ring operations being 1, and the encoder makes the
packet of the example for it. -/
theorem specPacketsDecode : Obligations.SpecPacketsDecode :=
  ⟨decode_of_encode_eq rfl rfl, decode_of_encode_eq rfl rfl, decode_of_encode_eq rfl rfl,
    decode_of_encode_eq rfl rfl, decode_of_encode_eq rfl rfl, decode_of_encode_eq rfl rfl,
    decode_of_encode_eq rfl rfl⟩

end Sys2Proof
end

section
/-! Proofs of the statements of 41_logdomain.md. First the table entries that LOG2 and EXP2 read exist; then the two
functions in the closed form of R36 to R39; last the log-domain approximations, for which a logarithm must come back from
its word unchanged. -/

namespace Sys2Proof

open Machine

namespace Machine

/-! ### Table entries and words -/

theorem getElem?_eq_some_tableRead {t : List Int} {i : Nat} (hi : i < t.length) : t[i]? = some (tableRead t i) := by
  rw [tableRead, List.getD_eq_getElem _ _ hi, List.getElem?_eq_getElem hi]

theorem log2Rom_entry {c : Config} (hc : c.valid = true) {m : Nat} (hm : m < 256) :
    c.log2Rom[m]? = some (tableRead c.log2Rom m) := by
  obtain ⟨-, -, hlog, -⟩ := (Config.valid_iff c).1 hc
  simp only [Config.log2Legal, Bool.and_eq_true, decide_eq_true_eq] at hlog
  exact getElem?_eq_some_tableRead (hlog.1 ▸ hm)

theorem exp2Rom_entry {c : Config} (hc : c.valid = true) {i : Nat} (hi : i < 256) :
    c.exp2Rom[i]? = some (tableRead c.exp2Rom i) := by
  obtain ⟨-, -, -, hexp, -⟩ := (Config.valid_iff c).1 hc
  simp only [Config.exp2Legal, Bool.and_eq_true, decide_eq_true_eq] at hexp
  exact getElem?_eq_some_tableRead (hexp.1 ▸ hi)

theorem u32_eq_zero_iff {w : Word} : u32 w = 0 ↔ w = 0#32 :=
  BitVec.toNat_inj (y := 0#32)

/-- The saturation the claims write is the model's. -/
theorem limit32_eq_sat32 (z : Int) : limit32 z = sat32 z := by
  simp only [limit32, limit, sat32, clamp, int32Min, int32Max]
  split_ifs <;> omega

/-! ### The logarithm, with the leading bit named by its bounds (R36, R37) -/

/-- LOG2 of zero is the sentinel, for both values of `LOG_INTERP` (R36, R37). -/
theorem answers_log2_zero {s : State} (hc : s.config.valid = true) : Answers s (.log2 0#32) [0x80000000#32] :=
  answers_iff.2 ⟨rfl, hc, rfl⟩

theorem answers_log2 {s : State} (hc : s.config.valid = true) (v : Word) :
    Answers s (.log2 v) [word (log2Fixed s.config v.toNat)] :=
  answers_iff.2 ⟨rfl, hc, rfl⟩

/-- The bounds name a non-zero word's leading bit. -/
theorem log2_of_bounds {v e : Nat} (h₁ : 2 ^ e ≤ v) (h₂ : v < 2 ^ (e + 1)) : v ≠ 0 ∧ Nat.log2 v = e := by
  have h₀ : v ≠ 0 := (lt_of_lt_of_le (Nat.two_pow_pos e) h₁).ne'
  exact ⟨h₀, (Nat.log2_eq_iff h₀).2 ⟨h₁, h₂⟩⟩

/-- Up to bit 7 the word is moved up to make the top 8 bits, none being dropped (R37). -/
theorem topBits_of_le {v : Nat} (h7 : Nat.log2 v ≤ 7) : topBits v = v * 2 ^ (7 - Nat.log2 v) := by
  rw [topBits, show 128 = 2 ^ (7 - Nat.log2 v) * 2 ^ Nat.log2 v by rw [← Nat.pow_add, Nat.sub_add_cancel h7],
    ← Nat.mul_assoc, Nat.mul_div_cancel _ (Nat.two_pow_pos _)]

theorem log2Rest_of_no_interp {c : Config} (hi : c.logInterp = false) (v : Nat) : log2Rest c v = 0 :=
  if_neg fun h => Bool.false_ne_true (hi.symm.trans h.1)

theorem log2Rest_of_le {c : Config} {v : Nat} (h7 : Nat.log2 v ≤ 7) : log2Rest c v = 0 :=
  if_neg fun h => absurd h.2 (not_lt.2 h7)

theorem log2Rest_of_interp {c : Config} (hi : c.logInterp = true) {v nb : Nat} (hnb : 1 ≤ nb)
    (hlog : Nat.log2 v = nb + 7) :
    log2Rest c v =
      (log2Next c (topBits v) - tableRead c.log2Rom (topBits v)) * (v % 2 ^ nb : Nat) / 2 ^ nb := by
  rw [log2Rest, if_pos ⟨hi, by omega⟩, hlog, Nat.add_sub_cancel, asr]

/-- Where nothing is interpolated LOG2 is the exponent plus the entry of the top 8 bits (R36). -/
theorem answers_log2_entry {s : State} (hc : s.config.valid = true) {v : Word} (h₀ : v.toNat ≠ 0)
    (hrest : log2Rest s.config v.toNat = 0) :
    ∃ t : Int, s.config.log2Rom[topBits v.toNat]? = some t ∧
      Answers s (.log2 v) [BitVec.ofInt 32 (((Nat.log2 v.toNat : Int) - 7) * 2 ^ s.config.lq + t)] := by
  refine ⟨_, log2Rom_entry hc (topBits_bounds h₀).2, ?_⟩
  have hans := answers_log2 hc v
  rwa [log2Fixed_eq hc h₀ v.isLt, hrest, add_zero] at hans

/-- The next point of the line is a table entry, an octave up after the last one (R37). -/
theorem log2Next_entry {c : Config} (hc : c.valid = true) {m : Nat} (hm : m < 256) :
    if m = 255 then c.log2Rom[128]? = some (log2Next c m - 2 ^ c.lq) else c.log2Rom[m + 1]? = some (log2Next c m) := by
  unfold log2Next
  split_ifs with h255
  · rw [add_sub_cancel_right]
    exact log2Rom_entry hc (by decide)
  · exact log2Rom_entry hc (by omega)

/-! ### The exponential in closed form (R38, R39) -/

/-- What is left of `y` above its floor is the remainder of the division. -/
theorem sub_asr_mul_two_pow (y : Int) (n : Nat) : y - asr y n * 2 ^ n = y % 2 ^ n := by
  rw [asr, Int.emod_def, mul_comm]

theorem toNat_emod_two_pow_lt (y : Int) (n : Nat) : (y % 2 ^ n).toNat < 2 ^ n :=
  sub_asr_mul_two_pow y n ▸ fraction_lt y n

theorem exp2z_eq (c : Config) (y : Int) :
    exp2z c y = shiftClamped (exp2Fraction c (y % 2 ^ c.lq).toNat) (y / 2 ^ c.lq - c.eq) := by
  rw [exp2z, sub_asr_mul_two_pow, asr]

theorem exp2Fraction_of_no_interp {c : Config} (hi : c.logInterp = false) (f : Nat) :
    exp2Fraction c f = tableRead c.exp2Rom (f / 2 ^ (c.lq - 8)) := by
  simp [exp2Fraction, hi]

theorem exp2Fraction_of_interp {c : Config} (hi : c.logInterp = true) {sh : Nat} (hlq : c.lq = 8 + sh) (f : Nat) :
    exp2Fraction c f =
      if sh = 0 then tableRead c.exp2Rom (f / 2 ^ sh)
      else tableRead c.exp2Rom (f / 2 ^ sh) +
        (exp2Next c (f / 2 ^ sh) - tableRead c.exp2Rom (f / 2 ^ sh)) * (f % 2 ^ sh : Nat) / 2 ^ sh := by
  have hsh : c.lq - 8 = sh := by omega
  rw [exp2Fraction, hsh, hi]
  by_cases h0 : sh = 0
  · simp [h0]
  · simp [h0, asr]

/-- The next point of the exponential's line is a table entry, twice entry 0 after the last one (R39). -/
theorem exp2Next_entry {c : Config} (hc : c.valid = true) {idx : Nat} (hi : idx < 256) :
    if idx = 255 then exp2Next c idx = 2 * tableRead c.exp2Rom 0 else c.exp2Rom[idx + 1]? = some (exp2Next c idx) := by
  unfold exp2Next
  split_ifs with h255
  · rfl
  · exact exp2Rom_entry hc (by omega)

/-- Whatever the table holds in its range, the next point is below `2^(EQ+2)` (R19). -/
theorem exp2Next_lt {c : Config} (hc : c.valid = true) {idx : Nat} (hi : idx < 256) :
    exp2Next c idx < 2 ^ (c.eq + 2) := by
  have hp : (0 : Int) < 2 ^ c.eq := by positivity
  unfold exp2Next
  split_ifs
  · have hfirst := (Config.exp2_entry hc (i := 0) (by decide)).2
    rw [pow_succ] at hfirst ⊢
    omega
  · have hentry := (Config.exp2_entry hc (i := idx + 1) (by omega)).2
    rw [pow_succ] at hentry ⊢
    omega

/-- The scaled power of a fraction is positive and far inside a word, for both values of `LOG_INTERP` and without any
clause on the table but its range: what the clamped shift relies on. -/
theorem exp2Fraction_fits {c : Config} (hc : c.valid = true) {f : Nat} (hf : f < 2 ^ c.lq) :
    0 < exp2Fraction c f ∧ exp2Fraction c f < 2 ^ 32 := by
  have heq := (Config.params_of_valid hc).eq.2
  have hroom : (2 : Int) ^ (c.eq + 2) ≤ 2 ^ 18 := pow_le_pow_right₀ one_le_two (by omega)
  have hidx := exp2_index_lt hc hf
  have hentry := (Config.exp2_entry hc hidx).2
  have hnext := exp2Next_lt hc hidx
  refine ⟨lt_of_lt_of_le (by positivity) (exp2Fraction_ge hc hf), ?_⟩
  have hentry' : tableRead c.exp2Rom (f / 2 ^ (c.lq - 8)) < 2 ^ (c.eq + 2) :=
    hentry.trans_le (pow_le_pow_right₀ one_le_two (by omega))
  simp only [exp2Fraction]
  split_ifs
  · have hline := (asr_mul_bounds (d := exp2Next c (f / 2 ^ (c.lq - 8)) - tableRead c.exp2Rom (f / 2 ^ (c.lq - 8)))
      (Nat.mod_lt f (Nat.two_pow_pos (c.lq - 8)))).2
    omega
  · omega

section Shift

variable {t : Int} (h₁ : 0 < t)

include h₁

/-- A positive number shifted up by the width of a word or more passes every word. -/
theorem u32Max_le_mul_two_pow {n : Nat} (hn : 32 ≤ n) : u32Max ≤ t * 2 ^ n :=
  le_trans (by decide) (two_pow_32_le_scaled (n := 0) (by rw [pow_zero]; exact h₁) (by omega))

/-- Clamping the shift up to 32 positions loses nothing: from there on the result saturates either way (R38). -/
theorem shiftClamped_up_eq (n : Nat) : shiftClamped t n = min (t * 2 ^ n) u32Max := by
  rw [shiftClamped_natCast]
  rcases le_total n 32 with hn | hn
  · rw [min_eq_left hn]
  · rw [min_eq_right hn, min_eq_right (u32Max_le_mul_two_pow h₁ le_rfl), min_eq_right (u32Max_le_mul_two_pow h₁ hn)]

/-- Clamping the shift down to 32 positions loses nothing: from there on no bit is left either way (R38). -/
theorem shiftClamped_down_eq (h₂ : t < 2 ^ 32) (n : Nat) : shiftClamped t (-n) = min (t / 2 ^ n) u32Max := by
  rcases Nat.eq_zero_or_pos n with rfl | hpos
  · simpa using shiftClamped_up_eq h₁ 0
  rw [shiftClamped_neg_natCast t hpos]
  rcases le_total n 32 with hn | hn
  · rw [min_eq_left hn]
  · have hnone (k : Nat) (hk : 32 ≤ k) : t / 2 ^ k = 0 :=
      Int.ediv_eq_zero_of_lt h₁.le (h₂.trans_le (pow_le_pow_right₀ one_le_two hk))
    rw [hnone _ (by omega), hnone _ hn]

end Shift

theorem answers_exp2 {s : State} (hc : s.config.valid = true) (y : Word) :
    Answers s (.exp2 y) [word (exp2z s.config y.toInt)] :=
  answers_iff.2 ⟨rfl, hc, rfl⟩

/-- EXP2 once the scaled power of the fraction is known: the shift by `i - EQ` and the saturation, unbounded (R38). -/
theorem answers_exp2_shift {s : State} (hc : s.config.valid = true) {y : Word} {t : Int}
    (ht : exp2Fraction s.config (y.toInt % 2 ^ s.config.lq).toNat = t) (n : Nat) :
    (y.toInt / 2 ^ s.config.lq = (s.config.eq : Int) + n →
      Answers s (.exp2 y) [BitVec.ofInt 32 (min (t * 2 ^ n) (2 ^ 32 - 1))]) ∧
    (y.toInt / 2 ^ s.config.lq = (s.config.eq : Int) - n →
      Answers s (.exp2 y) [BitVec.ofInt 32 (min (t / 2 ^ n) (2 ^ 32 - 1))]) := by
  obtain ⟨hpos, hlt⟩ := exp2Fraction_fits hc (toNat_emod_two_pow_lt y.toInt s.config.lq)
  rw [ht] at hpos hlt
  have hans := answers_exp2 hc y
  rw [exp2z_eq, ht] at hans
  constructor
  · intro hi
    rwa [hi, add_sub_cancel_left, shiftClamped_up_eq hpos] at hans
  · intro hi
    rwa [hi, show (s.config.eq : Int) - n - s.config.eq = -n by omega, shiftClamped_down_eq hpos hlt] at hans

/-! ### The exponential beyond the words (R44) -/

theorem exp2z_of_exponent_ge {c : Config} (hc : c.valid = true) {y : Int} (hy : c.eq + 32 ≤ y / 2 ^ c.lq) :
    exp2z c y = u32Max := by
  obtain ⟨hpos, -⟩ := exp2Fraction_fits hc (toNat_emod_two_pow_lt y c.lq)
  obtain ⟨n, hn⟩ : ∃ n : Nat, y / 2 ^ c.lq - c.eq = n := Int.eq_ofNat_of_zero_le (by omega)
  rw [exp2z_eq, hn, shiftClamped_up_eq hpos]
  exact min_eq_right (u32Max_le_mul_two_pow hpos (by omega))

theorem exp2z_of_exponent_le {c : Config} (hc : c.valid = true) {y : Int} (hy : y / 2 ^ c.lq ≤ c.eq - 32) :
    exp2z c y = 0 := by
  obtain ⟨hpos, hlt⟩ := exp2Fraction_fits hc (toNat_emod_two_pow_lt y c.lq)
  obtain ⟨n, hn⟩ : ∃ n : Nat, c.eq - y / 2 ^ c.lq = n := Int.eq_ofNat_of_zero_le (by omega)
  have hpow : (2 : Int) ^ 32 ≤ 2 ^ n := pow_le_pow_right₀ one_le_two (by omega)
  rw [exp2z_eq, show y / 2 ^ c.lq - c.eq = -(n : Int) by omega, shiftClamped_down_eq hpos hlt,
    Int.ediv_eq_zero_of_lt hpos.le (hlt.trans_le hpow)]
  rfl

/-- From the largest word on the exponential saturates, from the smallest one down it is 0: a logarithm outside the words
has the exponential of the nearest word. -/
theorem exp2z_sat32 {c : Config} (hc : c.valid = true) (z : Int) : exp2z c (sat32 z) = exp2z c z := by
  have heq := (Config.params_of_valid hc).eq
  have hlq := two_pow_lq_le hc
  have hp : (0 : Int) < 2 ^ c.lq := by positivity
  have hhigh {y : Int} (hy : 2147483647 ≤ y) : exp2z c y = u32Max :=
    exp2z_of_exponent_ge hc ((Int.le_ediv_iff_mul_le hp).2 (by nlinarith))
  have hlow {y : Int} (hy : y ≤ -2147483648) : exp2z c y = 0 :=
    exp2z_of_exponent_le hc (Int.le_of_lt_add_one ((Int.ediv_lt_iff_lt_mul hp).2 (by nlinarith)))
  have hsat : sat32 z = min (max z (-2147483648)) 2147483647 := rfl
  rcases lt_or_ge z (-2147483648) with h | h
  · rw [hlow (y := z) h.le, hlow (y := sat32 z) (by omega)]
  rcases lt_or_ge 2147483647 z with h' | h'
  · rw [hhigh (y := z) h'.le, hhigh (y := sat32 z) (by omega)]
  · rw [sat32_of_mem h h']

/-! ### Logarithms added and subtracted as words (R42, R43) -/

/-- The logarithms of two non-zero words read back from their words, and their sum and difference fit a word. -/
theorem toInt_word_log2Fixed_add_sub {c : Config} (hc : c.valid = true) {a b : Nat} (ha : a ≠ 0) (ha' : a < 2 ^ 32)
    (hb : b ≠ 0) (hb' : b < 2 ^ 32) :
    (word ((word (log2Fixed c a)).toInt + (word (log2Fixed c b)).toInt)).toInt = log2Fixed c a + log2Fixed c b ∧
    (word ((word (log2Fixed c a)).toInt - (word (log2Fixed c b)).toInt)).toInt = log2Fixed c a - log2Fixed c b := by
  have hba := log2Fixed_bounds hc ha ha'
  have hbb := log2Fixed_bounds hc hb hb'
  have hlq := two_pow_lq_le hc
  rw [toInt_word_log2Fixed hc ha ha', toInt_word_log2Fixed hc hb hb']
  exact ⟨s32_word (by omega) (by omega), s32_word (by omega) (by omega)⟩

end Machine

/-! ### The statements -/

namespace LogDomain

/-- Settles O20: nothing is interpolated, so the entry of the top 8 bits is all that is added. -/
theorem log2Plain : Obligations.Log2Plain := by
  intro s v hc hi
  refine ⟨decode_of_encode_eq rfl rfl, fun hv => hv ▸ answers_log2_zero hc, fun e h₁ h₂ => ?_⟩
  obtain ⟨h₀, rfl⟩ := log2_of_bounds h₁ h₂
  exact answers_log2_entry hc h₀ (log2Rest_of_no_interp hi _)

/-- Settles O21: up to bit 7 there are no bits below the top 8, above it they place the result between two entries. -/
theorem log2Interpolated : Obligations.Log2Interpolated := by
  intro s v hc hi
  refine ⟨decode_of_encode_eq rfl rfl, fun hv => hv ▸ answers_log2_zero hc, fun e h₁ h₂ h7 => ?_,
    fun nb hnb h₁ h₂ => ?_⟩
  · obtain ⟨h₀, rfl⟩ := log2_of_bounds h₁ h₂
    rw [← topBits_of_le h7]
    exact answers_log2_entry hc h₀ (log2Rest_of_le h7)
  · obtain ⟨h₀, hlog⟩ := log2_of_bounds h₁ h₂
    have htop := (topBits_bounds h₀).2
    rw [div_eq_topBits h₀ hlog]
    refine ⟨_, _, log2Rom_entry hc htop, log2Next_entry hc htop, ?_⟩
    have hans := answers_log2 hc v
    rwa [log2Fixed_eq hc h₀ v.isLt, log2Rest_of_interp hi hnb hlog, hlog, Nat.cast_add, Nat.cast_ofNat,
      add_sub_cancel_right] at hans

/-- Settles O23: the scaled power is the table entry, and the clamped shift of the model is the unbounded one. -/
theorem exp2Plain : Obligations.Exp2Plain := by
  intro s y hc hi
  have hidx := exp2_index_lt hc (toNat_emod_two_pow_lt y.toInt s.config.lq)
  exact ⟨decode_of_encode_eq rfl rfl, _, exp2Rom_entry hc hidx,
    answers_exp2_shift hc (exp2Fraction_of_no_interp hi _)⟩

/-- Settles O24: the scaled power is the point on the line, and the clamped shift of the model is the unbounded one. -/
theorem exp2Interpolated : Obligations.Exp2Interpolated := by
  intro s y f sh hc hi hf hlq
  have hfrac : (y.toInt % 2 ^ s.config.lq).toNat = f := by omega
  have hidx := exp2_index_lt hc (toNat_emod_two_pow_lt y.toInt s.config.lq)
  rw [hfrac, show s.config.lq - 8 = sh by omega] at hidx
  refine ⟨decode_of_encode_eq rfl rfl, _, _, _, _, exp2Rom_entry hc hidx, exp2Rom_entry hc (by decide),
    exp2Next_entry hc hidx, rfl, answers_exp2_shift hc ?_⟩
  rw [hfrac]
  exact exp2Fraction_of_interp hi hlq f

/-- Settles O26: for non-zero operands the sum of the two response words is the sum of the logarithms. -/
theorem mulApproxByLogarithms : Obligations.MulApproxByLogarithms := by
  intro s a b hc
  refine ⟨decode_of_encode_eq rfl rfl, _, _, _, answers_log2 hc a, answers_log2 hc b, answers_exp2 hc _,
    answers_iff.2 ⟨rfl, hc, ?_⟩⟩
  simp only [response, scalarOut, mulApprox, u32_eq_zero_iff]
  split_ifs with h0
  · rfl
  · obtain ⟨ha, hb⟩ := not_or.1 h0
    have hsum := (toInt_word_log2Fixed_add_sub hc (mt u32_eq_zero_iff.1 ha) a.isLt (mt u32_eq_zero_iff.1 hb) b.isLt).1
    exact congrArg (fun z => [word (exp2z s.config z)]) hsum

/-- Settles O27: for non-zero operands the difference of the two response words is that of the logarithms. -/
theorem divApproxByLogarithms : Obligations.DivApproxByLogarithms := by
  intro s n d hc
  refine ⟨decode_of_encode_eq rfl rfl, _, _, _, answers_log2 hc n, answers_log2 hc d, answers_exp2 hc _,
    answers_iff.2 ⟨rfl, hc, ?_⟩⟩
  simp only [response, scalarOut, divApprox, u32_eq_zero_iff]
  split_ifs with hd hn
  · rfl
  · rfl
  · have hdiff := (toInt_word_log2Fixed_add_sub hc (mt u32_eq_zero_iff.1 hn) n.isLt (mt u32_eq_zero_iff.1 hd) d.isLt).2
    exact congrArg (fun z => [word (exp2z s.config z)]) hdiff

/-- Settles O28: the scaled logarithm is saturated to a word, which the exponential does not notice. -/
theorem powApproxByLogarithms : Obligations.PowApproxByLogarithms := by
  intro s a k hc
  refine ⟨decode_of_encode_eq rfl rfl, _, _, answers_log2 hc a, answers_exp2 hc _, answers_iff.2 ⟨rfl, hc, ?_⟩⟩
  simp only [response, scalarOut, powApprox, u32_eq_zero_iff]
  split_ifs with ha
  · rfl
  · have h₀ : a.toNat ≠ 0 := mt u32_eq_zero_iff.1 ha
    have hexp : exp2z s.config (word (limit32 (log2Fixed s.config a.toNat * k.toInt / 65536))).toInt =
        exp2z s.config (log2Fixed s.config a.toNat * k.toInt / 65536) := by
      rw [limit32_eq_sat32]
      exact (congrArg _ (s32_word_sat32 _)).trans (exp2z_sat32 hc _)
    rw [toInt_word_log2Fixed hc h₀ a.isLt]
    exact congrArg (fun z => [word z]) hexp

end LogDomain

end Sys2Proof
end

section
/-! Proofs of the statements of 42_fixedpoint.md, and of the sentence of R70 on PIPELINE_MVP. First signs, magnitudes
and biased logarithms as words, and what the exact operations leave unchanged; then vectors and matrices whose components
are narrowed, which a host hands on from one request to the next; last the statements. -/

namespace Sys2Proof

open Machine

namespace Machine

/-! ### Signs and magnitudes (42_fixedpoint.md section 1) -/

theorem s32_eq_zero_iff {w : Word} : s32 w = 0 ↔ w = 0#32 :=
  BitVec.toInt_inj (y := 0#32)

/-- A signed operand is narrowed already. -/
@[simp] theorem sat32_s32 (w : Word) : sat32 (s32 w) = s32 w :=
  sat32_of_mem (s32_bounds w).1 (s32_bounds w).2

/-- The magnitude of the most negative word, too, fits a word. -/
theorem toNat_magnitude (w : Word) : (magnitude w).toNat = (s32 w).natAbs := by
  have hb := s32_bounds w
  rw [magnitude, BitVec.toNat_ofNat]
  exact Nat.mod_eq_of_lt (show (s32 w).natAbs < 2 ^ 32 by omega)

/-- A word that is not negative as a signed number is the same number unsigned. -/
theorem toNat_eq_toNat_s32 {w : Word} (h : 0 ≤ s32 w) : w.toNat = (s32 w).toNat := by
  rw [s32, BitVec.toInt_eq_toNat_cond] at *
  split_ifs at * <;> omega

/-- What a division by zero returns, as the claims write it (R47, R49). -/
theorem word_divByZero (n : Word) :
    word (divByZero (s32 n)) = if n.toInt < 0 then 0x80000000#32 else 0x7FFFFFFF#32 := by
  unfold divByZero s32
  split_ifs <;> rfl

/-- Of two non-zero factors exactly one is negative when the product is. -/
theorem decide_mul_neg {a b : Int} (ha : a ≠ 0) (hb : b ≠ 0) :
    decide (a * b < 0) = (decide (a < 0) ^^ decide (b < 0)) := by
  have hprod : a * b < 0 ↔ ¬ (a < 0 ↔ b < 0) := by
    rw [mul_neg_iff]
    omega
  rw [Bool.eq_iff_iff, Bool.xor_iff_ne, decide_eq_true_iff, hprod, ne_eq, decide_eq_decide]

/-- Putting the sign of `t` back on a magnitude is `signed_result` (R48, R71). -/
theorem withSignOf_word {m : Int} (h₁ : 0 ≤ m) (h₂ : m ≤ 4294967295) (t : Int) :
    withSignOf t (word m) = word (signedResult (decide (t < 0)) m) := by
  have hm : ((word m).toNat : Int) = m := u32_word h₁ h₂
  simp only [withSignOf, signedResult, hm, limit32_eq_sat32, decide_eq_true_eq, apply_ite sat32]
  rfl

/-- The same on the exponential with the sign of a product of two non-zero operands. -/
theorem withSignOf_exp2z {c : Config} (hc : c.valid = true) {a b : Int} (ha : a ≠ 0) (hb : b ≠ 0) (y : Int) :
    withSignOf (a * b) (word (exp2z c y)) = word (signedResult (decide (a < 0) ^^ decide (b < 0)) (exp2z c y)) := by
  obtain ⟨h₁, h₂⟩ := exp2z_bounds hc y
  rw [withSignOf_word h₁ h₂, decide_mul_neg ha hb]

/-- The exponential narrowed to a signed word, read from its unsigned word (R50, R51). -/
theorem limit32_exp2z {c : Config} (hc : c.valid = true) (y : Int) :
    BitVec.ofInt 32 (limit32 (word (exp2z c y)).toNat) = word (sat32 (exp2z c y)) := by
  obtain ⟨h₁, h₂⟩ := exp2z_bounds hc y
  have hm : ((word (exp2z c y)).toNat : Int) = exp2z c y := u32_word h₁ h₂
  rw [hm, limit32_eq_sat32, word]

/-! ### Biased logarithms as words (R48 to R51) -/

/-- A word holds every number of up to 256 octaves: sums and differences of logarithms with the bias of the format. -/
theorem toInt_word_of_octaves {c : Config} (hc : c.valid = true) {y : Int} (h₁ : -(256 * 2 ^ c.lq) ≤ y)
    (h₂ : y ≤ 256 * 2 ^ c.lq) : (word y).toInt = y := by
  have hlq := two_pow_lq_le hc
  exact s32_word (by omega) (by omega)

theorem answers_log2_magnitude {s : State} (hc : s.config.valid = true) (w : Word) :
    Answers s (.log2 (magnitude w)) [word (log2Fixed s.config (s32 w).natAbs)] :=
  toNat_magnitude w ▸ answers_log2 hc (magnitude w)

section Octaves

variable {c : Config} (hc : c.valid = true)

include hc

/-- The logarithm of the magnitude of a non-zero signed word: its range, and that it reads back from its word. -/
theorem log2Fixed_natAbs {w : Word} (hw : w ≠ 0#32) :
    -(7 * 2 ^ c.lq) ≤ log2Fixed c (s32 w).natAbs ∧ log2Fixed c (s32 w).natAbs < 41 * 2 ^ c.lq ∧
      (word (log2Fixed c (s32 w).natAbs)).toInt = log2Fixed c (s32 w).natAbs := by
  have h₀ : (s32 w).natAbs ≠ 0 := Int.natAbs_ne_zero.2 (mt s32_eq_zero_iff.1 hw)
  have hlt : (s32 w).natAbs < 2 ^ 32 := toNat_magnitude w ▸ (magnitude w).isLt
  obtain ⟨h₁, h₂⟩ := log2Fixed_bounds hc h₀ hlt
  exact ⟨h₁, h₂, toInt_word_log2Fixed hc h₀ hlt⟩

/-- The exponent word of QMUL_APPROX, made of the words of two logarithms (R48). -/
theorem toInt_qmulExponent {a b : Word} (ha : a ≠ 0#32) (hb : b ≠ 0#32) :
    (word ((word (log2Fixed c (s32 a).natAbs)).toInt + (word (log2Fixed c (s32 b).natAbs)).toInt
      - 16 * 2 ^ c.lq)).toInt = log2Fixed c (s32 a).natAbs + log2Fixed c (s32 b).natAbs - 16 * 2 ^ c.lq := by
  obtain ⟨ha₁, ha₂, hra⟩ := log2Fixed_natAbs hc ha
  obtain ⟨hb₁, hb₂, hrb⟩ := log2Fixed_natAbs hc hb
  rw [hra, hrb]
  exact toInt_word_of_octaves hc (by omega) (by omega)

/-- The exponent word of QDIV_APPROX (R49). -/
theorem toInt_qdivExponent {n d : Word} (hn : n ≠ 0#32) (hd : d ≠ 0#32) :
    (word ((word (log2Fixed c (s32 n).natAbs)).toInt - (word (log2Fixed c (s32 d).natAbs)).toInt
      + 16 * 2 ^ c.lq)).toInt = log2Fixed c (s32 n).natAbs - log2Fixed c (s32 d).natAbs + 16 * 2 ^ c.lq := by
  obtain ⟨hn₁, hn₂, hrn⟩ := log2Fixed_natAbs hc hn
  obtain ⟨hd₁, hd₂, hrd⟩ := log2Fixed_natAbs hc hd
  rw [hrn, hrd]
  exact toInt_word_of_octaves hc (by omega) (by omega)

/-- The exponent words of SQRT and INVERSE_SQRT, made of the word of half a logarithm (R50, R51). -/
theorem toInt_sqrtExponents {x : Word} (hx : 0 < s32 x) :
    (word ((word (log2Fixed c x.toNat)).toInt / 2 + 8 * 2 ^ c.lq)).toInt =
        asr (log2Fixed c (s32 x).toNat) 1 + 8 * 2 ^ c.lq ∧
      (word (24 * 2 ^ c.lq - (word (log2Fixed c x.toNat)).toInt / 2)).toInt =
        24 * 2 ^ c.lq - asr (log2Fixed c (s32 x).toNat) 1 := by
  rw [← toNat_eq_toNat_s32 hx.le, asr_eq, pow_one]
  have h₀ : x.toNat ≠ 0 := by
    rw [toNat_eq_toNat_s32 hx.le]
    omega
  obtain ⟨h₁, h₂⟩ := log2Fixed_bounds hc h₀ x.isLt
  rw [toInt_word_log2Fixed hc h₀ x.isLt]
  exact ⟨toInt_word_of_octaves hc (by omega) (by omega), toInt_word_of_octaves hc (by omega) (by omega)⟩

end Octaves

/-! ### What the exact operations leave unchanged (R46, R52) -/

/-- The 16 fraction bits of a multiple of 1.0 are zero, so dropping them loses nothing. -/
theorem asr_mul_one (z : Int) : asr (z * one) 16 = z :=
  Int.mul_ediv_cancel z (by decide)

theorem mulExact_one (a : Int) : mulExact a one = sat32 a := by
  rw [mulExact, asr_mul_one]

theorem mulExact_comm (a b : Int) : mulExact a b = mulExact b a := by
  rw [mulExact, mulExact, mul_comm]

theorem lerp_zero (a b : Int) : lerp a b 0 = sat32 a := by
  rw [lerp, mul_zero, asr, Int.zero_ediv, add_zero]

theorem lerp_one (a b : Int) : lerp a b one = sat32 b := by
  rw [lerp, asr_mul_one, add_sub_cancel]

theorem lerp_self (a t : Int) : lerp a a t = sat32 a := by
  rw [lerp, sub_self, zero_mul, asr, Int.zero_ediv, add_zero]

/-- An operation that narrows an operand word's own value answers that word. -/
theorem answers_of_sat32_s32 {s : State} (hc : s.config.valid = true) {i : Instr} (hwf : i.wellFormed = true) {w : Word}
    (h : response s.config i = scalarOut (sat32 (s32 w))) : Answers s i [w] :=
  answers_iff.2 ⟨hwf, hc, by rw [h, scalarOut, sat32_s32, word_s32]⟩

/-! ### Narrowed vectors and matrices (R33, D36) -/

/-- The three words of a vector; `vec3Out` is the packet of them. -/
def vec3Word (v : Vec3 Int) : Vec3 Word :=
  ⟨word v.x, word v.y, word v.z⟩

/-- The nine words of a matrix; `mat3Out` is the packet of them. -/
def mat3Word (m : Mat3 Int) : Mat3 Word :=
  ⟨vec3Word m.r0, vec3Word m.r1, vec3Word m.r2⟩

theorem words_vec3Word (v : Vec3 Int) : (vec3Word v).words = vec3Out v := rfl

theorem words_mat3Word (m : Mat3 Int) : (mat3Word m).words = mat3Out m := rfl

/-- Every component fits a signed word. -/
def Vec3Fits (v : Vec3 Int) : Prop :=
  FitsS32 v.x ∧ FitsS32 v.y ∧ FitsS32 v.z

/-- Every entry fits a signed word. -/
def Mat3Fits (m : Mat3 Int) : Prop :=
  Vec3Fits m.r0 ∧ Vec3Fits m.r1 ∧ Vec3Fits m.r2

theorem vec3In_vec3Word {v : Vec3 Int} (h : Vec3Fits v) : vec3In (vec3Word v) = v := by
  obtain ⟨⟨hx₁, hx₂⟩, ⟨hy₁, hy₂⟩, ⟨hz₁, hz₂⟩⟩ := h
  simp only [vec3In, vec3Word, s32_word hx₁ hx₂, s32_word hy₁ hy₂, s32_word hz₁ hz₂]

theorem mat3In_mat3Word {m : Mat3 Int} (h : Mat3Fits m) : mat3In (mat3Word m) = m := by
  obtain ⟨h0, h1, h2⟩ := h
  simp only [mat3In, mat3Word, vec3In_vec3Word h0, vec3In_vec3Word h1, vec3In_vec3Word h2]

theorem v3add_fits (a b : Vec3 Int) : Vec3Fits (v3add a b) :=
  ⟨sat32_bounds _, sat32_bounds _, sat32_bounds _⟩

theorem v3scale_fits (v : Vec3 Int) (k : Int) : Vec3Fits (v3scale v k) :=
  ⟨sat32_bounds _, sat32_bounds _, sat32_bounds _⟩

theorem m3mulv_fits (a : Mat3 Int) (v : Vec3 Int) : Vec3Fits (m3mulv a v) :=
  ⟨sat32_bounds _, sat32_bounds _, sat32_bounds _⟩

theorem m3rowMul_fits (r : Vec3 Int) (b : Mat3 Int) : Vec3Fits (m3rowMul r b) :=
  ⟨sat32_bounds _, sat32_bounds _, sat32_bounds _⟩

theorem m3mul_fits (a b : Mat3 Int) : Mat3Fits (m3mul a b) :=
  ⟨m3rowMul_fits _ _, m3rowMul_fits _ _, m3rowMul_fits _ _⟩

/-! ### The stages of PIPELINE_MVP as requests (R57, R64, R69) -/

section Stages

variable {s : State} (hc : s.config.valid = true)

include hc

theorem answers_mulExact (a b : Word) : Answers s (.mulExact a b) [word (mulExact (s32 a) (s32 b))] :=
  answers_iff.2 ⟨rfl, hc, rfl⟩

theorem answers_mat3RotationEuler (ax ay az : Word) :
    Answers s (.mat3RotationEuler ax ay az) (mat3Word (m3euler s.config (ang ax) (ang ay) (ang az))).words :=
  answers_iff.2 ⟨rfl, hc, words_mat3Word _⟩

theorem answers_mat3MulVec3 {m : Mat3 Int} {v : Vec3 Int} (hm : Mat3Fits m) (hv : Vec3Fits v) :
    Answers s (.mat3MulVec3 (mat3Word m) (vec3Word v)) (vec3Word (m3mulv m v)).words :=
  answers_iff.2 ⟨rfl, hc, by rw [response, mat3In_mat3Word hm, vec3In_vec3Word hv, words_vec3Word]⟩

theorem answers_vec3Add {a : Vec3 Int} (ha : Vec3Fits a) (b : Vec3 Word) :
    Answers s (.vec3Add (vec3Word a) b) (vec3Word (v3add a (vec3In b))).words :=
  answers_iff.2 ⟨rfl, hc, by rw [response, vec3In_vec3Word ha, words_vec3Word]⟩

theorem answers_projectPerspective {v : Vec3 Int} (hv : Vec3Fits v) (focal : Word) :
    Answers s (.projectPerspective (vec3Word v) focal) (vec3Word (project v (s32 focal))).words :=
  answers_iff.2 ⟨rfl, hc, by rw [response, vec3In_vec3Word hv, words_vec3Word]⟩

end Stages

end Machine

/-! ### The statements -/

namespace FixedPoint

/-- Settles O29: `limit32` is the narrowing of the model. -/
theorem mulExact : Obligations.MulExact := by
  intro s a b hc
  refine ⟨decode_of_encode_eq rfl rfl, ?_⟩
  rw [limit32_eq_sat32]
  exact answers_mulExact hc a b

/-- Settles O30: the model's quotient toward zero is `Int.tdiv`. -/
theorem divExact : Obligations.DivExact := by
  intro s n d hc
  refine ⟨decode_of_encode_eq rfl rfl, fun hd => answers_iff.2 ⟨rfl, hc, ?_⟩,
    fun hd => answers_iff.2 ⟨rfl, hc, ?_⟩⟩
  · rw [response, scalarOut, Machine.divExact, if_pos (s32_eq_zero_iff.2 hd), word_divByZero]
  · rw [response, scalarOut, Machine.divExact, if_neg (mt s32_eq_zero_iff.1 hd), tdiv_eq, limit32_eq_sat32]
    rfl

/-- Settles O31: for non-zero operands the exponent word is the exponent itself, and the sign is that of the product. -/
theorem qmulApproxByLogarithms : Obligations.QmulApproxByLogarithms := by
  intro s a b hc
  refine ⟨decode_of_encode_eq rfl rfl, _, _, _, answers_log2_magnitude hc a, answers_log2_magnitude hc b,
    answers_exp2 hc _, answers_iff.2 ⟨rfl, hc, ?_⟩⟩
  simp only [response, scalarOut, qmulApprox, s32_eq_zero_iff]
  split_ifs with h0
  · rfl
  · obtain ⟨ha, hb⟩ := not_or.1 h0
    have hsign := withSignOf_exp2z hc (mt s32_eq_zero_iff.1 ha) (mt s32_eq_zero_iff.1 hb)
    rw [← hsign, ← toInt_qmulExponent hc ha hb]
    rfl

/-- Settles O32: the divisor is tested first; the rest is as for the product. -/
theorem qdivApproxByLogarithms : Obligations.QdivApproxByLogarithms := by
  intro s n d hc
  refine ⟨decode_of_encode_eq rfl rfl, _, _, _, answers_log2_magnitude hc n, answers_log2_magnitude hc d,
    answers_exp2 hc _, answers_iff.2 ⟨rfl, hc, ?_⟩⟩
  simp only [response, scalarOut, qdivApprox, s32_eq_zero_iff, ← word_divByZero]
  split_ifs with hd hn
  · rfl
  · rfl
  · have hsign := withSignOf_exp2z hc (mt s32_eq_zero_iff.1 hn) (mt s32_eq_zero_iff.1 hd)
    rw [← hsign, ← toInt_qdivExponent hc hn hd]
    rfl

/-- Settles O33: a positive operand is the same number for LOG2, and the exponent word is the exponent itself. -/
theorem sqrtByLogarithms : Obligations.SqrtByLogarithms := by
  intro s x hc
  refine ⟨decode_of_encode_eq rfl rfl, _, _, answers_log2 hc x, answers_exp2 hc _, answers_iff.2 ⟨rfl, hc, ?_⟩⟩
  rw [response, scalarOut, qSqrt, limit32_exp2z hc, ← s32]
  split_ifs with hx
  · rfl
  · rw [← (toInt_sqrtExponents hc (not_le.1 hx)).1]
    rfl

/-- Settles O34: as for SQRT; the logarithm is halved before it is subtracted. -/
theorem inverseSqrtByLogarithms : Obligations.InverseSqrtByLogarithms := by
  intro s x hc
  refine ⟨decode_of_encode_eq rfl rfl, _, _, answers_log2 hc x, answers_exp2 hc _, answers_iff.2 ⟨rfl, hc, ?_⟩⟩
  rw [response, scalarOut, qInverseSqrt, limit32_exp2z hc, ← s32]
  split_ifs with hx
  · rfl
  · rw [← (toInt_sqrtExponents hc (not_le.1 hx)).2]
    rfl

/-- Settles O35: `limit32` is the narrowing of the model. -/
theorem lerp : Obligations.Lerp := by
  intro s a b t hc
  refine ⟨decode_of_encode_eq rfl rfl, answers_iff.2 ⟨rfl, hc, ?_⟩⟩
  rw [limit32_eq_sat32]
  rfl

/-- Settles O36: in each case the operation narrows the value of a word, which is narrow already. -/
theorem exactEndpointsAndUnit : Obligations.ExactEndpointsAndUnit := by
  intro s a b t hc
  exact ⟨answers_of_sat32_s32 hc rfl (congrArg scalarOut (lerp_zero _ _)),
    answers_of_sat32_s32 hc rfl (congrArg scalarOut (lerp_one _ _)),
    answers_of_sat32_s32 hc rfl (congrArg scalarOut (lerp_self _ _)),
    answers_of_sat32_s32 hc rfl (congrArg scalarOut (mulExact_one _)),
    answers_of_sat32_s32 hc rfl (congrArg scalarOut ((mulExact_comm _ _).trans (mulExact_one _)))⟩

/-- Settles O51: every stage hands on narrowed components, so the next request reads back exactly what `pipeline_mvp`
hands on inside. -/
theorem pipelineMvpIsTheHostSequence : Obligations.PipelineMvpIsTheHostSequence := by
  intro s v scale ax ay az t focal hc
  exact ⟨decode_of_encode_eq rfl rfl, vec3Word (v3scale (vec3In v) (s32 scale)), _, _, _, _,
    answers_mulExact hc v.x scale, answers_mulExact hc v.y scale, answers_mulExact hc v.z scale,
    answers_mat3RotationEuler hc ax ay az, answers_mat3MulVec3 hc (m3mul_fits _ _) (v3scale_fits _ _),
    answers_vec3Add hc (m3mulv_fits _ _) t, answers_projectPerspective hc (v3add_fits _ _) focal,
    answers_iff.2 ⟨rfl, hc, rfl⟩⟩

end FixedPoint

end Sys2Proof
end

section
/-! Proofs of the statements of 43_trig.md. First that every index the layer computes lies in its table (R24), so that
the read finds an entry; then the fold of ATAN2 and the clamp of ACOS in the words of the rules; last the statements. -/

namespace Sys2Proof

open Machine

namespace Machine

/-! ### Indices and table entries (R24, R53 to R56) -/

/-- The four tables of the layer have the lengths that R20 to R22 give them. -/
theorem trigRom_lengths {c : Config} (hc : c.valid = true) :
    c.sinRom.length = 2 ^ c.sinBits ∧ c.cosRom.length = 2 ^ c.sinBits ∧ c.atanRom.length = 2 ^ c.atanBits ∧
      c.acosRom.length = 2 ^ c.acosBits := by
  obtain ⟨-, -, -, -, hsin, hcos, hatan, hacos, -⟩ := (Config.valid_iff c).1 hc
  simp only [Config.sinLegal, Config.cosLegal, Config.atanLegal, Config.acosLegal, Bool.and_eq_true,
    decide_eq_true_eq] at hsin hcos hatan hacos
  exact ⟨hsin.1, hcos.1, hatan.1, hacos.1⟩

/-- An angle is less than one turn, so its index needs no clamp (R53). -/
theorem turnIndex_lt (c : Config) {angle : Nat} (h : angle < 65536) : turnIndex c angle < 2 ^ c.sinBits :=
  Nat.div_lt_of_lt_mul (Nat.mul_lt_mul_of_pos_right h (Nat.two_pow_pos _))

/-- Scaling by `2^SIN_BITS` and dropping 16 bits keeps the top `SIN_BITS` bits of 16 (R53). -/
theorem turnIndex_eq_topBits {c : Config} (h : c.sinBits ≤ 16) (angle : Nat) :
    turnIndex c angle = angle / 2 ^ (16 - c.sinBits) := by
  calc angle * 2 ^ c.sinBits / 2 ^ 16
      = angle * 2 ^ c.sinBits / (2 ^ (16 - c.sinBits) * 2 ^ c.sinBits) := by rw [← Nat.pow_add, Nat.sub_add_cancel h]
    _ = angle / 2 ^ (16 - c.sinBits) := Nat.mul_div_mul_right _ _ (Nat.two_pow_pos _)

/-- An index clamped to the last entry is inside a table of `2^n` entries. -/
theorem clampedIndex_lt (k n : Nat) : min k (2 ^ n - 1) < 2 ^ n :=
  (min_le_right _ _).trans_lt (Nat.sub_one_lt (Nat.two_pow_pos n).ne')

theorem ratioIndex_lt (c : Config) (lo hi : Nat) : ratioIndex c lo hi < 2 ^ c.atanBits :=
  clampedIndex_lt _ _

theorem acosIndex_lt (c : Config) (mag : Nat) : acosIndex c mag < 2 ^ c.acosBits :=
  clampedIndex_lt _ _

/-! ### The fold of ATAN2 (R55) -/

/-- With the larger magnitude 0 the point is the origin. -/
theorem tAtan2_origin (c : Config) {y x : Int} (h : max y.natAbs x.natAbs = 0) : tAtan2 c y x = 0 :=
  if_pos (by omega)

/-- The swap of the model puts the smaller magnitude over the larger one; the reflections follow in their order. -/
theorem tAtan2_of_max_ne_zero {c : Config} {y x a a₁ a₂ a₃ : Int} (h : max y.natAbs x.natAbs ≠ 0)
    (ha : a = tableRead c.atanRom (ratioIndex c (min y.natAbs x.natAbs) (max y.natAbs x.natAbs)))
    (h₁ : a₁ = if x.natAbs < y.natAbs then 16384 - a else a)
    (h₂ : a₂ = if x < 0 then 32768 - a₁ else a₁) (h₃ : a₃ = if y < 0 then -a₂ else a₂) :
    tAtan2 c y x = a₃ % 65536 := by
  have hne : ¬ (y.natAbs = 0 ∧ x.natAbs = 0) := by omega
  subst ha h₁ h₂ h₃
  rw [tAtan2, if_neg hne]
  by_cases hswap : x.natAbs < y.natAbs
  · simp only [decide_eq_true hswap, if_pos hswap, if_true, min_eq_right hswap.le, max_eq_left hswap.le]
  · simp only [decide_eq_false hswap, if_neg hswap, Bool.false_eq_true, if_false, min_eq_left (not_lt.1 hswap),
      max_eq_right (not_lt.1 hswap)]

/-! ### The clamp and the reflection of ACOS (R56) -/

/-- Clamping to `-1.0 .. 1.0` limits the magnitude to 1.0. -/
theorem natAbs_clamp_one (x : Int) : (clamp x (-one) one).natAbs = min x.natAbs 65536 := by
  simp only [clamp, one]
  omega

theorem tAcos_eq (c : Config) (x : Int) :
    tAcos c x =
      if x < 0 then 32768 - tableRead c.acosRom (acosIndex c (min x.natAbs 65536))
      else tableRead c.acosRom (acosIndex c (min x.natAbs 65536)) := by
  rw [tAcos, natAbs_clamp_one]

/-- The entry is at most a quarter turn, so the result is at most half a turn, reflected or not (R22, R56). -/
theorem tAcos_bounds {c : Config} (hc : c.valid = true) (x : Int) : 0 ≤ tAcos c x ∧ tAcos c x ≤ 32768 := by
  have he := Config.acos_entry hc (acosIndex_lt c (min x.natAbs 65536))
  rw [tAcos_eq]
  split_ifs <;> omega

/-! ### The operations as requests -/

section Requests

variable {s : State} (hc : s.config.valid = true)

include hc

theorem answers_sin (angle : Word) :
    Answers s (.sin angle) [word (tableRead s.config.sinRom (turnIndex s.config (ang angle)))] :=
  answers_iff.2 ⟨rfl, hc, rfl⟩

theorem answers_cos (angle : Word) :
    Answers s (.cos angle) [word (tableRead s.config.cosRom (turnIndex s.config (ang angle)))] :=
  answers_iff.2 ⟨rfl, hc, rfl⟩

theorem answers_atan2 (y x : Word) : Answers s (.atan2 y x) [word (tAtan2 s.config y.toInt x.toInt)] :=
  answers_iff.2 ⟨rfl, hc, rfl⟩

theorem answers_acos (x : Word) : Answers s (.acos x) [word (tAcos s.config x.toInt)] :=
  answers_iff.2 ⟨rfl, hc, rfl⟩

end Requests

end Machine

/-! ### The statements -/

namespace Trig

/-- Settles O37: the index of the model is the top bits of the angle, and it is below the length of both columns. -/
theorem sinAndCosReadTheirColumns : Obligations.SinAndCosReadTheirColumns := by
  intro s angle hc
  have hlt := turnIndex_lt s.config (ang_lt angle)
  have hidx : angle.toNat % 65536 / 2 ^ (16 - s.config.sinBits) = turnIndex s.config (ang angle) := by
    rw [turnIndex_eq_topBits (Config.params_of_valid hc).sinBits.2, ang_eq]
  obtain ⟨hsin, hcos, -, -⟩ := trigRom_lengths hc
  obtain ⟨hx, hx'⟩ := Config.sin_entry hc hlt
  obtain ⟨hy, hy'⟩ := Config.cos_entry hc hlt
  rw [hidx]
  exact ⟨decode_of_encode_eq rfl rfl, decode_of_encode_eq rfl rfl, _, _,
    getElem?_eq_some_tableRead (hlt.trans_eq hsin.symm), getElem?_eq_some_tableRead (hlt.trans_eq hcos.symm),
    answers_sin hc angle, answers_cos hc angle, hx, hx', hy, hy'⟩

/-- Settles O38: the index is inside the table, and the fold is that of `tAtan2_of_max_ne_zero`. -/
theorem atan2ByOctantFolding : Obligations.Atan2ByOctantFolding := by
  rintro s y x lo hi hc rfl rfl
  refine ⟨decode_of_encode_eq rfl rfl, fun h0 => ?_, fun h0 => ?_⟩
  · have hans := answers_atan2 hc y x
    rwa [tAtan2_origin s.config h0] at hans
  · obtain ⟨-, -, hatan, -⟩ := trigRom_lengths hc
    refine ⟨_, _, _, _, getElem?_eq_some_tableRead ((ratioIndex_lt s.config _ _).trans_eq hatan.symm), rfl, rfl,
      rfl, ?_⟩
    have hans := answers_atan2 hc y x
    rwa [tAtan2_of_max_ne_zero h0 rfl rfl rfl rfl] at hans

/-- Settles O39: the index is inside the table, and the clamp of the argument is the limit on its magnitude. -/
theorem acosByReflection : Obligations.AcosByReflection := by
  intro s x hc
  obtain ⟨-, -, -, hacos⟩ := trigRom_lengths hc
  obtain ⟨h0, hhalf⟩ := tAcos_bounds hc x.toInt
  exact ⟨decode_of_encode_eq rfl rfl, _, _,
    getElem?_eq_some_tableRead ((acosIndex_lt s.config _).trans_eq hacos.symm), tAcos_eq s.config x.toInt,
    h0, hhalf, answers_acos hc x⟩

end Trig

end Sys2Proof
end

section
/-! Proofs of the statements of 44_pipeline3d.md, but for the sentence of R70 on PIPELINE_MVP. First the narrowed values
that the layer hands on, and the vector and matrix operations on them as requests; then the products with the identity
matrix, the elementary rotations, and the divide in the log domain; last the statements. -/

namespace Sys2Proof

open Machine

namespace Machine

/-! ### Narrowed values (R33, D36) -/

theorem s32_word_of_fits {z : Int} (h : FitsS32 z) : s32 (word z) = z :=
  s32_word h.1 h.2

theorem zero_fits : FitsS32 0 := by
  decide

theorem one_fits : FitsS32 one := by
  decide

/-- A narrowed result reads back from its word, as the claims read a word. -/
theorem toInt_word_sat32 (z : Int) : (word (sat32 z)).toInt = sat32 z :=
  s32_word_sat32 z

/-- The narrowed product the claims write is `M(a, b)` of the model. -/
theorem product_eq_mulExact (a b : Word) : product a b = mulExact (s32 a) (s32 b) :=
  limit32_eq_sat32 _

theorem qInverseSqrt_fits (c : Config) (x : Int) : FitsS32 (qInverseSqrt c x) := by
  unfold qInverseSqrt
  split_ifs
  · decide
  · exact sat32_bounds _

theorem vec3In_fits (v : Vec3 Word) : Vec3Fits (vec3In v) :=
  ⟨s32_bounds _, s32_bounds _, s32_bounds _⟩

theorem mat3In_fits (m : Mat3 Word) : Mat3Fits (mat3In m) :=
  ⟨vec3In_fits _, vec3In_fits _, vec3In_fits _⟩

theorem v3cross_fits (a b : Vec3 Int) : Vec3Fits (v3cross a b) :=
  ⟨sat32_bounds _, sat32_bounds _, sat32_bounds _⟩

@[simp] theorem vec3Word_vec3In (v : Vec3 Word) : vec3Word (vec3In v) = v := by
  simp [vec3Word, vec3In]

@[simp] theorem mat3Word_mat3In (m : Mat3 Word) : mat3Word (mat3In m) = m := by
  simp [mat3Word, mat3In]

/-! ### The operations on vectors and matrices as requests -/

section Requests

variable {s : State} (hc : s.config.valid = true)

include hc

theorem answers_vec3Dot (a b : Vec3 Word) : Answers s (.vec3Dot a b) [word (v3dot (vec3In a) (vec3In b))] :=
  answers_iff.2 ⟨rfl, hc, rfl⟩

theorem answers_vec3Cross (a b : Vec3 Word) :
    Answers s (.vec3Cross a b) (vec3Word (v3cross (vec3In a) (vec3In b))).words :=
  answers_iff.2 ⟨rfl, hc, words_vec3Word _⟩

theorem answers_inverseSqrt {n : Int} (hn : FitsS32 n) :
    Answers s (.inverseSqrt (word n)) [word (qInverseSqrt s.config n)] :=
  answers_iff.2 ⟨rfl, hc, by rw [response, s32_word_of_fits hn, scalarOut]⟩

/-- A product whose second factor is a narrowed result. -/
theorem answers_mulExact_word (a : Word) {k : Int} (hk : FitsS32 k) :
    Answers s (.mulExact a (word k)) [word (mulExact (s32 a) k)] := by
  have hans := answers_mulExact hc a (word k)
  rwa [s32_word_of_fits hk] at hans

theorem answers_mat3Mul {a b : Mat3 Int} (ha : Mat3Fits a) (hb : Mat3Fits b) :
    Answers s (.mat3Mul (mat3Word a) (mat3Word b)) (mat3Word (m3mul a b)).words :=
  answers_iff.2 ⟨rfl, hc, by rw [response, mat3In_mat3Word ha, mat3In_mat3Word hb, words_mat3Word]⟩

end Requests

/-! ### Dot and cross products (R59, R60) -/

theorem v3dot_comm (a b : Vec3 Int) : v3dot a b = v3dot b a := by
  simp only [v3dot, mulExact_comm a.x, mulExact_comm a.y, mulExact_comm a.z]

/-- The two products of each component are the same one, so their difference is zero before it is narrowed. -/
theorem v3cross_self (a : Vec3 Int) : v3cross a a = ⟨0, 0, 0⟩ := by
  rw [v3cross, mulExact_comm a.z a.y, mulExact_comm a.x a.z, mulExact_comm a.y a.x, sub_self, sub_self, sub_self]
  rfl

/-! ### The identity matrix (R63, R64) -/

/-- The matrix with 1.0 on its diagonal. -/
def m3one : Mat3 Int :=
  ⟨⟨one, 0, 0⟩, ⟨0, one, 0⟩, ⟨0, 0, one⟩⟩

theorem m3one_fits : Mat3Fits m3one :=
  ⟨⟨one_fits, zero_fits, zero_fits⟩, ⟨zero_fits, one_fits, zero_fits⟩, ⟨zero_fits, zero_fits, one_fits⟩⟩

/-- The identity matrix as the claims write it. -/
theorem mat3Word_m3one :
    mat3Word m3one = ⟨⟨65536#32, 0#32, 0#32⟩, ⟨0#32, 65536#32, 0#32⟩, ⟨0#32, 0#32, 65536#32⟩⟩ := rfl

theorem one_mulExact (a : Int) : mulExact one a = sat32 a := by
  rw [mulExact_comm, mulExact_one]

theorem zero_mulExact (a : Int) : mulExact 0 a = 0 := by
  rw [mulExact, zero_mul]
  rfl

/-- The scalar product with a row of the identity matrix picks a component and loses nothing. -/
theorem v3dot_m3one {v : Vec3 Int} (hv : Vec3Fits v) :
    v3dot m3one.r0 v = v.x ∧ v3dot m3one.r1 v = v.y ∧ v3dot m3one.r2 v = v.z := by
  obtain ⟨⟨hx₁, hx₂⟩, ⟨hy₁, hy₂⟩, ⟨hz₁, hz₂⟩⟩ := hv
  simp only [v3dot, m3one, one_mulExact, zero_mulExact, add_zero, zero_add, sat32_of_mem hx₁ hx₂,
    sat32_of_mem hy₁ hy₂, sat32_of_mem hz₁ hz₂, and_self]

theorem m3mulv_m3one {v : Vec3 Int} (hv : Vec3Fits v) : m3mulv m3one v = v := by
  obtain ⟨hx, hy, hz⟩ := v3dot_m3one hv
  rw [m3mulv, hx, hy, hz]

/-- The identity matrix is its own columns, so each entry of a row is picked. -/
theorem m3rowMul_m3one {r : Vec3 Int} (hr : Vec3Fits r) : m3rowMul r m3one = r :=
  calc m3rowMul r m3one = ⟨v3dot r m3one.r0, v3dot r m3one.r1, v3dot r m3one.r2⟩ := rfl
    _ = m3mulv m3one r := by rw [v3dot_comm r, v3dot_comm r, v3dot_comm r, m3mulv]
    _ = r := m3mulv_m3one hr

theorem m3mul_m3one {a : Mat3 Int} (ha : Mat3Fits a) : m3mul a m3one = a := by
  obtain ⟨h0, h1, h2⟩ := ha
  rw [m3mul, m3rowMul_m3one h0, m3rowMul_m3one h1, m3rowMul_m3one h2]

theorem m3cols_fits {a : Mat3 Int} (ha : Mat3Fits a) : Mat3Fits (m3cols a) := by
  obtain ⟨⟨h0x, h0y, h0z⟩, ⟨h1x, h1y, h1z⟩, ⟨h2x, h2y, h2z⟩⟩ := ha
  exact ⟨⟨h0x, h1x, h2x⟩, ⟨h0y, h1y, h2y⟩, ⟨h0z, h1z, h2z⟩⟩

theorem m3one_m3mul {a : Mat3 Int} (ha : Mat3Fits a) : m3mul m3one a = a := by
  obtain ⟨hcol0, hcol1, hcol2⟩ := m3cols_fits ha
  obtain ⟨h0x, h1x, h2x⟩ := v3dot_m3one hcol0
  obtain ⟨h0y, h1y, h2y⟩ := v3dot_m3one hcol1
  obtain ⟨h0z, h1z, h2z⟩ := v3dot_m3one hcol2
  simp only [m3mul, m3rowMul, h0x, h1x, h2x, h0y, h1y, h2y, h0z, h1z, h2z]
  rfl

/-! ### Sines, cosines and the elementary rotations (R53, R54, R65) -/

/-- A sine or a cosine: at most 1.0 in magnitude. -/
def WithinOne (z : Int) : Prop :=
  -65536 ≤ z ∧ z ≤ 65536

theorem WithinOne.fits {z : Int} (h : WithinOne z) : FitsS32 z ∧ FitsS32 (-z) := by
  obtain ⟨h₁, h₂⟩ := h
  exact ⟨⟨by omega, by omega⟩, ⟨by omega, by omega⟩⟩

theorem tSin_withinOne {c : Config} (hc : c.valid = true) (angle : Word) : WithinOne (tSin c (ang angle)) :=
  Config.sin_entry hc (turnIndex_lt c (ang_lt angle))

theorem tCos_withinOne {c : Config} (hc : c.valid = true) (angle : Word) : WithinOne (tCos c (ang angle)) :=
  Config.cos_entry hc (turnIndex_lt c (ang_lt angle))

/-- The host negates a word, the model an integer (R65). -/
theorem neg_word (z : Int) : -word z = word (-z) :=
  (BitVec.ofInt_neg).symm

theorem mat3Word_rotX (s c : Int) :
    mat3Word (rotX s c) = ⟨⟨65536#32, 0#32, 0#32⟩, ⟨0#32, word c, -word s⟩, ⟨0#32, word s, word c⟩⟩ := by
  rw [neg_word]
  rfl

theorem mat3Word_rotY (s c : Int) :
    mat3Word (rotY s c) = ⟨⟨word c, 0#32, word s⟩, ⟨0#32, 65536#32, 0#32⟩, ⟨-word s, 0#32, word c⟩⟩ := by
  rw [neg_word]
  rfl

theorem mat3Word_rotZ (s c : Int) :
    mat3Word (rotZ s c) = ⟨⟨word c, -word s, 0#32⟩, ⟨word s, word c, 0#32⟩, ⟨0#32, 0#32, 65536#32⟩⟩ := by
  rw [neg_word]
  rfl

theorem rot_fits {s c : Int} (hs : WithinOne s) (hcos : WithinOne c) :
    Mat3Fits (rotX s c) ∧ Mat3Fits (rotY s c) ∧ Mat3Fits (rotZ s c) := by
  obtain ⟨hs, hneg⟩ := hs.fits
  obtain ⟨hcos, -⟩ := hcos.fits
  exact ⟨⟨⟨one_fits, zero_fits, zero_fits⟩, ⟨zero_fits, hcos, hneg⟩, ⟨zero_fits, hs, hcos⟩⟩,
    ⟨⟨hcos, zero_fits, hs⟩, ⟨zero_fits, one_fits, zero_fits⟩, ⟨hneg, zero_fits, hcos⟩⟩,
    ⟨⟨hcos, hneg, zero_fits⟩, ⟨hs, hcos, zero_fits⟩, ⟨zero_fits, zero_fits, one_fits⟩⟩⟩

/-- Half of an angle as an operand: below half a turn, so that no bit of it is ignored (R66). -/
theorem ang_half {angle half : Word} (h : half.toNat = angle.toNat % 65536 / 2) : ang half = ang angle / 2 := by
  rw [ang_eq, ang_eq]
  omega

/-! ### The rotation by a quaternion (R67) -/

/-- The saturated doubling is VEC3_ADD of a vector with itself. -/
theorem v3add_self (t : Vec3 Int) : v3add t t = ⟨sat32 (2 * t.x), sat32 (2 * t.y), sat32 (2 * t.z)⟩ := by
  simp only [v3add, two_mul]

/-! ### The guarded denominator and the divide in the log domain (R69, R71) -/

/-- Narrowing keeps a denominator from becoming zero, so the guard may come before or after it. -/
theorem guardZero_sat32 (z : Int) : guardZero (sat32 z) = if z = 0 then 1 else limit32 z := by
  have hzero : sat32 z = 0 ↔ z = 0 := by
    simp only [sat32, clamp, int32Min, int32Max]
    omega
  simp only [guardZero, hzero, limit32_eq_sat32]

theorem guardZero_ne_zero (z : Int) : guardZero z ≠ 0 := by
  unfold guardZero
  split_ifs with h
  · decide
  · exact h

/-- The denominator word of PIPELINE_MVP_FUSED for a view-space `z` (R71). -/
def fusedDenominator (z focal : Word) : Word :=
  word (guardZero (sat32 (s32 z + s32 focal)))

theorem s32_fusedDenominator (z focal : Word) :
    s32 (fusedDenominator z focal) = guardZero (sat32 (s32 z + s32 focal)) :=
  s32_word_of_fits (guardZero_fits (sat32_bounds _))

theorem toInt_fusedDenominator (z focal : Word) :
    (fusedDenominator z focal).toInt =
      if z.toInt + focal.toInt = 0 then 1 else limit32 (z.toInt + focal.toInt) :=
  (s32_fusedDenominator z focal).trans (guardZero_sat32 _)

theorem fusedDenominator_ne_zero (z focal : Word) : fusedDenominator z focal ≠ 0#32 := by
  rw [ne_eq, ← s32_eq_zero_iff, s32_fusedDenominator]
  exact guardZero_ne_zero _

/-- The response of PIPELINE_MVP_FUSED from the words of the view-space point that `mvp_view` makes (R71). -/
theorem response_pipelineMvpFused {c : Config} {v : Vec3 Word} {scale ax ay az : Word} {t w : Vec3 Word}
    (hw : vec3In w = mvpView c (vec3In v) (s32 scale) (ang ax) (ang ay) (ang az) (vec3In t)) (focal : Word) :
    response c (.pipelineMvpFused v scale ax ay az t focal) =
      [word (ratioApprox c (s32 w.x) (s32 focal) (s32 (fusedDenominator w.z focal))),
        word (ratioApprox c (s32 w.y) (s32 focal) (s32 (fusedDenominator w.z focal))), w.z] := by
  rw [response, pipelineMvpFused, ← hw, s32_fusedDenominator]
  simp only [vec3Out, vec3In, word_s32]

section Ratio

variable {c : Config} (hc : c.valid = true)

include hc

/-- The exponent word of one ratio, made of the words of three logarithms (R71). -/
theorem toInt_ratioExponent {x f d : Word} (hx : x ≠ 0#32) (hf : f ≠ 0#32) (hd : d ≠ 0#32) :
    (word ((word (log2Fixed c (s32 x).natAbs)).toInt + (word (log2Fixed c (s32 f).natAbs)).toInt
      - (word (log2Fixed c (s32 d).natAbs)).toInt)).toInt =
      log2Fixed c (s32 x).natAbs + log2Fixed c (s32 f).natAbs - log2Fixed c (s32 d).natAbs := by
  obtain ⟨hx₁, hx₂, hrx⟩ := log2Fixed_natAbs hc hx
  obtain ⟨hf₁, hf₂, hrf⟩ := log2Fixed_natAbs hc hf
  obtain ⟨hd₁, hd₂, hrd⟩ := log2Fixed_natAbs hc hd
  rw [hrx, hrf, hrd]
  exact toInt_word_of_octaves hc (by omega) (by omega)

/-- One ratio by a non-zero denominator, from the responses of LOG2 and EXP2 (R71). -/
theorem word_ratioApprox (x f : Word) {d : Word} (hd : d ≠ 0#32) :
    word (ratioApprox c (s32 x) (s32 f) (s32 d)) =
      if x = 0#32 ∨ f = 0#32 then 0#32
      else withSignOf (x.toInt * f.toInt * d.toInt)
        (word (exp2z c (word ((word (log2Fixed c (s32 x).natAbs)).toInt + (word (log2Fixed c (s32 f).natAbs)).toInt
          - (word (log2Fixed c (s32 d).natAbs)).toInt)).toInt)) := by
  simp only [ratioApprox, s32_eq_zero_iff]
  split_ifs with h0
  · rfl
  · obtain ⟨hx, hf⟩ := not_or.1 h0
    have hx' : s32 x ≠ 0 := mt s32_eq_zero_iff.1 hx
    have hf' : s32 f ≠ 0 := mt s32_eq_zero_iff.1 hf
    have hd' : s32 d ≠ 0 := mt s32_eq_zero_iff.1 hd
    rw [toInt_ratioExponent hc hx hf hd, ← s32, ← s32, ← s32, withSignOf_exp2z hc (mul_ne_zero hx' hf') hd',
      decide_mul_neg hx' hf']

end Ratio

end Machine

/-! ### The statements -/

namespace Pipeline3D

/-- Settles O42: both follow from the commutativity of the narrowed product. -/
theorem crossSelfIsZeroAndDotCommutes : Obligations.CrossSelfIsZeroAndDotCommutes := by
  intro s a b hc
  have hcross := answers_vec3Cross hc a a
  have hdot := answers_vec3Dot hc b a
  rw [v3cross_self] at hcross
  rw [v3dot_comm] at hdot
  exact ⟨hcross, _, answers_vec3Dot hc a b, hdot⟩

/-- Settles O43: the scalar product and its inverse square root are narrowed, so they read back from their words. -/
theorem vec3LengthAndNormalizeByDot : Obligations.Vec3LengthAndNormalizeByDot := by
  intro s v hc
  have hn : FitsS32 (v3dot (vec3In v) (vec3In v)) := sat32_bounds _
  have hk := qInverseSqrt_fits s.config (v3dot (vec3In v) (vec3In v))
  exact ⟨decode_of_encode_eq rfl rfl, decode_of_encode_eq rfl rfl, _, word (v3len s.config (vec3In v)), _, _, _, _,
    answers_vec3Dot hc v v, answers_iff.2 ⟨rfl, hc, by rw [response, s32_word_of_fits hn, scalarOut, v3len]⟩,
    answers_iff.2 ⟨rfl, hc, rfl⟩, answers_inverseSqrt hc hn, answers_mulExact_word hc v.x hk,
    answers_mulExact_word hc v.y hk, answers_mulExact_word hc v.z hk, answers_iff.2 ⟨rfl, hc, rfl⟩⟩

/-- Settles O44: the entries of both results are the scalar products of a row and a column. -/
theorem mat3ProductsByDot : Obligations.Mat3ProductsByDot := by
  intro s a b v hc
  have hcol (u : Vec3 Word) : Answers s (.mat3MulVec3 a u) (vec3Word (m3mulv (mat3In a) (vec3In u))).words :=
    answers_iff.2 ⟨rfl, hc, rfl⟩
  exact ⟨decode_of_encode_eq rfl rfl, decode_of_encode_eq rfl rfl,
    ⟨_, _, _, answers_vec3Dot hc a.r0 v, answers_vec3Dot hc a.r1 v, answers_vec3Dot hc a.r2 v, hcol v⟩,
    _, _, _, hcol _, hcol _, hcol _, answers_iff.2 ⟨rfl, hc, rfl⟩⟩

/-- Settles O45: operand words are narrow already, so that the products with 1.0 and with 0 lose nothing. -/
theorem identityMatrixIsExactUnit : Obligations.IdentityMatrixIsExactUnit := by
  intro s a v hc
  have hleft := answers_mat3Mul hc m3one_fits (mat3In_fits a)
  have hright := answers_mat3Mul hc (mat3In_fits a) m3one_fits
  have hvec := answers_mat3MulVec3 hc m3one_fits (vec3In_fits v)
  rw [m3one_m3mul (mat3In_fits a), mat3Word_mat3In] at hleft
  rw [m3mul_m3one (mat3In_fits a), mat3Word_mat3In] at hright
  rw [m3mulv_m3one (vec3In_fits v), vec3Word_vec3In] at hvec
  exact ⟨hleft, hright, hvec⟩

/-- Settles O46: sines and cosines and their negatives fit words, so the elementary matrices read back as they are. -/
theorem eulerIsTwoMatrixProducts : Obligations.EulerIsTwoMatrixProducts := by
  intro s ax ay az hc
  obtain ⟨hX, -, -⟩ := rot_fits (tSin_withinOne hc ax) (tCos_withinOne hc ax)
  obtain ⟨-, hY, -⟩ := rot_fits (tSin_withinOne hc ay) (tCos_withinOne hc ay)
  obtain ⟨-, -, hZ⟩ := rot_fits (tSin_withinOne hc az) (tCos_withinOne hc az)
  have hinner := answers_mat3Mul hc hY hX
  rw [mat3Word_rotX, mat3Word_rotY] at hinner
  refine ⟨decode_of_encode_eq rfl rfl, _, _, _, _, _, _, _, _, answers_sin hc ax, answers_cos hc ax,
    answers_sin hc ay, answers_cos hc ay, answers_sin hc az, answers_cos hc az, hinner, ?_,
    answers_mat3RotationEuler hc ax ay az⟩
  rw [← mat3Word_rotZ]
  exact answers_mat3Mul hc hZ (m3mul_fits _ _)

/-- Settles O47: the half angle is the operand of SIN and COS, and the sine reads back from its word. -/
theorem quatFromAxisAngleByHalfAngle : Obligations.QuatFromAxisAngleByHalfAngle := by
  intro s axis angle half hc hhalf
  obtain ⟨hsin, -⟩ := (tSin_withinOne hc half).fits
  refine ⟨decode_of_encode_eq rfl rfl, _, _, _, _, _, answers_sin hc half, answers_cos hc half,
    answers_mulExact_word hc axis.x hsin, answers_mulExact_word hc axis.y hsin,
    answers_mulExact_word hc axis.z hsin, answers_iff.2 ⟨rfl, hc, ?_⟩⟩
  rw [ang_half hhalf]
  rfl

/-- Settles O48: the two cross products and the doubling are narrowed, so each reads back from its words. -/
theorem quatRotateVecByTwoCrossProducts : Obligations.QuatRotateVecByTwoCrossProducts := by
  intro s q v hc
  have hdouble := answers_vec3Add hc (v3cross_fits (vec3In ⟨q.x, q.y, q.z⟩) (vec3In v))
    (vec3Word (v3cross (vec3In ⟨q.x, q.y, q.z⟩) (vec3In v)))
  rw [vec3In_vec3Word (v3cross_fits _ _), v3add_self] at hdouble
  refine ⟨decode_of_encode_eq rfl rfl, _, _, _, answers_vec3Cross hc ⟨q.x, q.y, q.z⟩ v, hdouble,
    answers_vec3Cross hc ⟨q.x, q.y, q.z⟩ _, answers_iff.2 ⟨rfl, hc, ?_⟩⟩
  simp only [product_eq_mulExact, limit32_eq_sat32, vec3Word, vec3In, v3cross, s32_word_sat32,
    toInt_word_sat32]
  rfl

/-- Settles O49: the sum of the squares and its inverse square root are narrowed, so they read back. -/
theorem quatNormalizeByInverseSqrt : Obligations.QuatNormalizeByInverseSqrt := by
  intro s q hc
  simp only [product_eq_mulExact, limit32_eq_sat32]
  have hk (n : Int) := qInverseSqrt_fits s.config n
  exact ⟨decode_of_encode_eq rfl rfl, _, _, _, _, _, answers_inverseSqrt hc (sat32_bounds _),
    answers_mulExact_word hc q.w (hk _), answers_mulExact_word hc q.x (hk _), answers_mulExact_word hc q.y (hk _),
    answers_mulExact_word hc q.z (hk _), answers_iff.2 ⟨rfl, hc, rfl⟩⟩

/-- Settles O50: the model's quotient toward zero is `Int.tdiv`, and `z` goes back to its own word. -/
theorem projectPerspective : Obligations.ProjectPerspective := by
  rintro s v focal d hc rfl
  refine ⟨decode_of_encode_eq rfl rfl, answers_iff.2 ⟨rfl, hc, ?_⟩⟩
  simp only [response, project, vec3Out, vec3In, word_s32, tdiv_eq, limit32_eq_sat32]
  rfl

/-- Settles O52: every stage up to the view-space point hands on narrowed components, as in PIPELINE_MVP; then each of
the two ratios is that of `word_ratioApprox`. -/
theorem pipelineMvpFusedDividesInTheLogDomain : Obligations.PipelineMvpFusedDividesInTheLogDomain := by
  intro s v scale ax ay az t focal hc
  refine ⟨decode_of_encode_eq rfl rfl, vec3Word (v3scale (vec3In v) (s32 scale)), _, _, _, fusedDenominator _ focal,
    _, _, _, _, _, _, answers_mulExact hc v.x scale, answers_mulExact hc v.y scale, answers_mulExact hc v.z scale,
    answers_mat3RotationEuler hc ax ay az, answers_mat3MulVec3 hc (m3mul_fits _ _) (v3scale_fits _ _),
    answers_vec3Add hc (m3mulv_fits _ _) t, toInt_fusedDenominator _ focal, answers_log2_magnitude hc _,
    answers_log2_magnitude hc _, answers_log2_magnitude hc focal, answers_log2_magnitude hc _, answers_exp2 hc _,
    answers_exp2 hc _, answers_iff.2 ⟨rfl, hc, ?_⟩⟩
  have hw := vec3In_vec3Word (v3add_fits (m3mulv (m3euler s.config (ang ax) (ang ay) (ang az))
    (v3scale (vec3In v) (s32 scale))) (vec3In t))
  rw [response_pipelineMvpFused hw, word_ratioApprox hc _ _ (fusedDenominator_ne_zero _ _),
    word_ratioApprox hc _ _ (fusedDenominator_ne_zero _ _)]
  rfl

/-- Settles O40: `limit32` is the narrowing of the model. -/
theorem vec3AddAndSub : Obligations.Vec3AddAndSub := by
  intro s a b hc
  simp only [limit32_eq_sat32]
  exact ⟨decode_of_encode_eq rfl rfl, decode_of_encode_eq rfl rfl, answers_iff.2 ⟨rfl, hc, rfl⟩,
    answers_iff.2 ⟨rfl, hc, rfl⟩⟩

/-- Settles O41: `product` is the narrowed product of the model. -/
theorem vec3DotAndCross : Obligations.Vec3DotAndCross := by
  intro s a b hc
  simp only [limit32_eq_sat32, product_eq_mulExact]
  exact ⟨decode_of_encode_eq rfl rfl, decode_of_encode_eq rfl rfl, answers_vec3Dot hc a b, answers_vec3Cross hc a b⟩

end Pipeline3D

end Sys2Proof
end

section
/-! Proofs of the statements of 45_ring.md. First ring elements as words and the form in which ring results are written;
then each operation of the ring by the cases of its rule, and what it keeps; then the operations as requests; last the
statements. -/

namespace Sys2Proof

open Machine

namespace Machine

/-! ### Signs and logarithms of ring elements (R33, R72) -/

/-- The saturation off the sentinel that the claims write is the model's. -/
theorem limitLog_eq_satlog (z : Int) : limitLog z = satlog z := by
  simp only [limitLog, limit, satlog, clamp, int32Min, int32Max]
  split_ifs <;> omega

/-- Saturating a log word's own value moves only the sentinel, to the least log word of a non-zero result. -/
theorem word_satlog_s32 (l : Word) :
    word (satlog (s32 l)) = if l = 0x80000000#32 then 0x80000001#32 else l := by
  split_ifs with hl
  · rw [hl]
    rfl
  · have hne : s32 l ≠ -2147483648 := fun h => hl (BitVec.eq_of_toInt_eq h)
    have hb := s32_bounds l
    rw [satlog_of_mem (by omega) hb.2, word_s32]

/-- A legal sign that is not 0 is one of the two units of `Z`. -/
theorem isUnit_sign {w : Word} (h : LegalSign w) (h₀ : w ≠ 0#32) : IsUnit (s32 w) := by
  obtain rfl | rfl | rfl := h
  · exact isUnit_one.neg
  · exact absurd rfl h₀
  · exact isUnit_one

theorem legalSign_word_of_isUnit {z : Int} (h : IsUnit z) : LegalSign (word z) ∧ word z ≠ 0#32 := by
  obtain rfl | rfl := Int.isUnit_iff.1 h
  · exact ⟨.inr (.inr rfl), by decide⟩
  · exact ⟨.inl rfl, by decide⟩

/-- The sign of a product or a quotient, as the claims write it (R75, R76). -/
theorem word_mul_sign {v w : Word} (hv : LegalSign v) (hw : LegalSign w) (hv₀ : v ≠ 0#32) (hw₀ : w ≠ 0#32) :
    word (s32 v * s32 w) = if v = w then 1#32 else 0xFFFFFFFF#32 := by
  obtain rfl | rfl | rfl := hv
  · obtain rfl | rfl | rfl := hw
    · rfl
    · exact absurd rfl hw₀
    · rfl
  · exact absurd rfl hv₀
  · obtain rfl | rfl | rfl := hw
    · rfl
    · exact absurd rfl hw₀
    · rfl

/-- The sign of a quotient by zero, as the claims write it (R76). -/
theorem word_sign_div_zero {w : Word} (h : LegalSign w) :
    word (if s32 w < 0 then -1 else 1) = if w = 0xFFFFFFFF#32 then 0xFFFFFFFF#32 else 1#32 := by
  obtain rfl | rfl | rfl := h
  · rfl
  · rfl
  · rfl

/-! ### How ring elements are written (R72 (b)) -/

/-- A ring element as its two words. -/
def log32Word (a : Log32 Int) : Log32 Word :=
  ⟨word a.sign, word a.log⟩

theorem words_log32Word (a : Log32 Int) : (log32Word a).words = log32Out a := rfl

@[simp] theorem log32Word_log32Read (a : Log32 Word) : log32Word (log32Read a) = a := by
  simp [log32Word, log32Read]

theorem sign_eq_zero_iff {a : Log32 Word} : (log32Read a).sign = 0 ↔ a.sign = 0#32 :=
  s32_eq_zero_iff

/-- How a non-zero ring element is written: sign -1 or 1, and a log word other than the sentinel. -/
structure IsNonzeroElement (a : Log32 Int) : Prop where
  sign : IsUnit a.sign
  log_gt : -2147483648 < a.log
  log_le : a.log ≤ 2147483647

/-- How a ring result is written: as the ring zero, or as a non-zero element. -/
def IsRingResult (a : Log32 Int) : Prop :=
  a = zero32 ∨ IsNonzeroElement a

theorem isNonzeroElement_satlog {s : Int} (hs : IsUnit s) (z : Int) : IsNonzeroElement ⟨s, satlog z⟩ :=
  ⟨hs, (satlog_bounds z).1, (satlog_bounds z).2⟩

theorem isNonzeroElement_int32Max {s : Int} (hs : IsUnit s) : IsNonzeroElement ⟨s, int32Max⟩ :=
  ⟨hs, (by decide : -2147483648 < int32Max), le_refl int32Max⟩

/-- A written element reads back from its words. -/
theorem log32Read_log32Word {a : Log32 Int} (h : IsRingResult a) : log32Read (log32Word a) = a := by
  obtain rfl | ⟨hsign, hgt, hle⟩ := h
  · rfl
  · have hs : s32 (word a.sign) = a.sign := by
      obtain hs | hs := Int.isUnit_iff.1 hsign <;> rw [hs] <;> rfl
    rw [log32Read, log32Word, hs, s32_word hgt.le hle]

/-- The words of a written element: the sign is legal, and it is 0 exactly with the sentinel. -/
theorem log32Word_wellFormed {a : Log32 Int} (h : IsRingResult a) :
    LegalSign (log32Word a).sign ∧ ((log32Word a).sign = 0#32 ↔ (log32Word a).log = 0x80000000#32) := by
  obtain rfl | ⟨hsign, hgt, hle⟩ := h
  · exact ⟨.inr (.inl rfl), iff_of_true rfl rfl⟩
  · obtain ⟨hlegal, hne⟩ := legalSign_word_of_isUnit hsign
    refine ⟨hlegal, iff_of_false hne fun hlog => ?_⟩
    have hmin : s32 (word a.log) = -2147483648 := congrArg s32 hlog
    rw [s32_word hgt.le hle] at hmin
    omega

/-! ### To and from the linear domain (R73, R74) -/

/-- The logarithm of a non-zero magnitude is not the sentinel. -/
theorem toLog32_isRingResult {c : Config} (hc : c.valid = true) {v : Int} (hv : FitsS32 v) :
    IsRingResult (toLog32 c v) := by
  by_cases h₀ : v = 0
  · exact .inl (if_pos h₀)
  · obtain ⟨h₁, h₂⟩ := log2Fixed_bounds hc (Int.natAbs_ne_zero.2 h₀) (v := v.natAbs) (by omega)
    have hlq := two_pow_lq_le hc
    rw [toLog32, if_neg h₀]
    split_ifs
    · exact .inr ⟨isUnit_one, by dsimp only; omega, by dsimp only; omega⟩
    · exact .inr ⟨isUnit_one.neg, by dsimp only; omega, by dsimp only; omega⟩

theorem fromLog32_of_zero (c : Config) {a : Log32 Int} (h : a.sign = 0) : fromLog32 c a = 0 :=
  if_pos h

/-- Away from zero FROM_LOG32 is `signed_result` of the exponential, as in R48. -/
theorem fromLog32_of_sign (c : Config) {a : Log32 Int} (h : a.sign ≠ 0) :
    fromLog32 c a = signedResult (decide (a.sign < 0)) (exp2z c a.log) := by
  obtain hneg | hpos := lt_or_gt_of_ne h
  · rw [fromLog32, if_neg h, if_neg hneg.le.not_gt, signedResult, decide_eq_true hneg, if_pos rfl]
  · rw [fromLog32, if_neg h, if_pos hpos, signedResult, decide_eq_false hpos.le.not_gt, if_neg Bool.false_ne_true]

theorem fromLog32_fits (c : Config) (a : Log32 Int) : FitsS32 (fromLog32 c a) := by
  by_cases h : a.sign = 0
  · rw [fromLog32_of_zero c h]
    exact zero_fits
  · rw [fromLog32_of_sign c h]
    exact signedResult_bounds _ _

/-! ### Product, quotient and power by cases (R75, R76, R78) -/

section Products

variable {a b : Log32 Int}

theorem log32Mul_of_zero (h : a.sign = 0 ∨ b.sign = 0) : log32Mul a b = zero32 :=
  if_pos h

theorem log32Mul_of_signs (ha : a.sign ≠ 0) (hb : b.sign ≠ 0) :
    log32Mul a b = ⟨a.sign * b.sign, satlog (a.log + b.log)⟩ :=
  if_neg (not_or.2 ⟨ha, hb⟩)

theorem log32Div_by_zero (hb : b.sign = 0) : log32Div a b = ⟨if a.sign < 0 then -1 else 1, int32Max⟩ := by
  rw [log32Div, if_pos hb]
  split_ifs <;> rfl

theorem log32Div_of_zero (ha : a.sign = 0) (hb : b.sign ≠ 0) : log32Div a b = zero32 := by
  rw [log32Div, if_neg hb, if_pos ha]

theorem log32Div_of_signs (ha : a.sign ≠ 0) (hb : b.sign ≠ 0) :
    log32Div a b = ⟨a.sign * b.sign, satlog (a.log - b.log)⟩ := by
  rw [log32Div, if_neg hb, if_neg ha]

theorem log32Pow_of_zero (ha : a.sign = 0) (k : Int) : log32Pow a k = zero32 :=
  if_pos ha

theorem log32Pow_of_sign (ha : a.sign ≠ 0) (k : Int) : log32Pow a k = ⟨1, satlog (asr (a.log * k) 16)⟩ :=
  if_neg ha

/-- Each unit is its own inverse, so that dividing by the second sign takes it out of the product again; the logarithms
cancel because their sum was not saturated. -/
theorem log32Div_log32Mul (ha : IsUnit a.sign) (hb : IsUnit b.sign) (h₁ : -(2 ^ 31) < a.log + b.log)
    (h₂ : a.log + b.log < 2 ^ 31) : log32Div (log32Mul a b) b = ⟨a.sign, satlog a.log⟩ := by
  rw [log32Mul_of_signs ha.ne_zero hb.ne_zero, satlog_of_mem (by omega) (by omega),
    log32Div_of_signs (ha.mul hb).ne_zero hb.ne_zero, mul_assoc, Int.isUnit_mul_self hb, mul_one, add_sub_cancel_right]

end Products

/-! ### The sum by cases (R77) -/

section Sum

variable (c : Config) {a b : Log32 Int}

theorem log32Add_of_zeros (ha : a.sign = 0) (hb : b.sign = 0) : log32Add c a b = zero32 := by
  rw [log32Add, if_pos ha, if_pos hb]

theorem log32Add_of_left_zero (ha : a.sign = 0) (hb : b.sign ≠ 0) : log32Add c a b = b := by
  rw [log32Add, if_pos ha, if_neg hb]

theorem log32Add_of_right_zero (ha : a.sign ≠ 0) (hb : b.sign = 0) : log32Add c a b = a := by
  rw [log32Add, if_neg ha, if_pos hb]

theorem log32Add_of_like_signs (ha : a.sign ≠ 0) (hab : a.sign = b.sign) :
    log32Add c a b =
      ⟨a.sign, satlog (max a.log b.log + tableRead c.lseRom (lseIndex c (a.log - b.log).natAbs))⟩ := by
  rw [log32Add, if_neg ha, if_neg (hab ▸ ha), if_pos hab]

theorem log32Add_of_unlike_signs (ha : a.sign ≠ 0) (hb : b.sign ≠ 0) (hab : a.sign ≠ b.sign) :
    log32Add c a b = toLog32 c (sat32 (fromLog32 c a + fromLog32 c b)) := by
  rw [log32Add, if_neg ha, if_neg hb, if_neg hab]

/-- Each case of the rule is symmetric: the larger logarithm, the distance of the two, and the linear sum are. -/
theorem log32Add_comm (a b : Log32 Int) : log32Add c a b = log32Add c b a := by
  by_cases ha : a.sign = 0
  · by_cases hb : b.sign = 0
    · rw [log32Add_of_zeros c ha hb, log32Add_of_zeros c hb ha]
    · rw [log32Add_of_left_zero c ha hb, log32Add_of_right_zero c hb ha]
  · by_cases hb : b.sign = 0
    · rw [log32Add_of_right_zero c ha hb, log32Add_of_left_zero c hb ha]
    · by_cases hab : a.sign = b.sign
      · rw [log32Add_of_like_signs c ha hab, log32Add_of_like_signs c hb hab.symm, hab, max_comm, ← Int.natAbs_neg,
          neg_sub]
      · rw [log32Add_of_unlike_signs c ha hb hab, log32Add_of_unlike_signs c hb ha (Ne.symm hab), add_comm]

end Sum

/-- The clamped index lies in the table, so that the read finds an entry (R24, R77). -/
theorem lseRom_entry {c : Config} (hc : c.valid = true) (delta : Nat) :
    c.lseRom[lseIndex c delta]? = some (tableRead c.lseRom (lseIndex c delta)) := by
  obtain ⟨-, -, -, -, -, -, -, -, hlse⟩ := (Config.valid_iff c).1 hc
  simp only [Config.lseLegal, Bool.and_eq_true, decide_eq_true_eq] at hlse
  have hlt : lseIndex c delta < 256 := Nat.lt_succ_of_le (min_le_right _ 255)
  exact getElem?_eq_some_tableRead (hlse.1 ▸ hlt)

/-! ### Every ring result is written as R72 (b) says -/

section Written

variable {a b : Log32 Int}

theorem log32Mul_isRingResult (ha : a.sign ≠ 0 → IsUnit a.sign) (hb : b.sign ≠ 0 → IsUnit b.sign) :
    IsRingResult (log32Mul a b) := by
  by_cases h : a.sign = 0 ∨ b.sign = 0
  · exact .inl (log32Mul_of_zero h)
  · obtain ⟨ha₀, hb₀⟩ := not_or.1 h
    rw [log32Mul_of_signs ha₀ hb₀]
    exact .inr (isNonzeroElement_satlog ((ha ha₀).mul (hb hb₀)) _)

theorem log32Div_isRingResult (ha : a.sign ≠ 0 → IsUnit a.sign) (hb : b.sign ≠ 0 → IsUnit b.sign) :
    IsRingResult (log32Div a b) := by
  by_cases hb₀ : b.sign = 0
  · rw [log32Div_by_zero hb₀]
    split_ifs
    · exact .inr (isNonzeroElement_int32Max isUnit_one.neg)
    · exact .inr (isNonzeroElement_int32Max isUnit_one)
  · by_cases ha₀ : a.sign = 0
    · exact .inl (log32Div_of_zero ha₀ hb₀)
    · rw [log32Div_of_signs ha₀ hb₀]
      exact .inr (isNonzeroElement_satlog ((ha ha₀).mul (hb hb₀)) _)

theorem log32Pow_isRingResult (a : Log32 Int) (k : Int) : IsRingResult (log32Pow a k) := by
  by_cases ha : a.sign = 0
  · exact .inl (log32Pow_of_zero ha k)
  · rw [log32Pow_of_sign ha]
    exact .inr (isNonzeroElement_satlog isUnit_one _)

/-- A zero operand hands on the other as it is, which is why the operands have to be written well here. -/
theorem log32Add_isRingResult {c : Config} (hc : c.valid = true) (ha : a.sign ≠ 0 → IsNonzeroElement a)
    (hb : b.sign ≠ 0 → IsNonzeroElement b) : IsRingResult (log32Add c a b) := by
  by_cases ha₀ : a.sign = 0
  · by_cases hb₀ : b.sign = 0
    · exact .inl (log32Add_of_zeros c ha₀ hb₀)
    · rw [log32Add_of_left_zero c ha₀ hb₀]
      exact .inr (hb hb₀)
  · by_cases hb₀ : b.sign = 0
    · rw [log32Add_of_right_zero c ha₀ hb₀]
      exact .inr (ha ha₀)
    · by_cases hab : a.sign = b.sign
      · rw [log32Add_of_like_signs c ha₀ hab]
        exact .inr (isNonzeroElement_satlog (ha ha₀).sign _)
      · rw [log32Add_of_unlike_signs c ha₀ hb₀ hab]
        exact toLog32_isRingResult hc (sat32_bounds _)

end Written

/-! ### The ring operations as requests -/

/-- An operand with a legal sign, read: unless its sign is 0 it is a unit. -/
theorem isUnit_log32Read_sign {a : Log32 Word} (h : LegalSign a.sign) :
    (log32Read a).sign ≠ 0 → IsUnit (log32Read a).sign :=
  fun h₀ => isUnit_sign h (mt sign_eq_zero_iff.2 h₀)

/-- An operand with a legal sign that does not carry the sentinel unless it is zero. -/
theorem log32Read_isNonzeroElement {a : Log32 Word} (h : LegalSign a.sign)
    (hlog : a.log = 0x80000000#32 → a.sign = 0#32) (h₀ : (log32Read a).sign ≠ 0) :
    IsNonzeroElement (log32Read a) := by
  have hne : s32 a.log ≠ -2147483648 := fun hmin =>
    h₀ (sign_eq_zero_iff.2 (hlog (BitVec.eq_of_toInt_eq hmin)))
  obtain ⟨hge, hle⟩ := s32_bounds a.log
  exact ⟨isUnit_log32Read_sign h h₀, lt_of_le_of_ne hge hne.symm, hle⟩

theorem legal_and_legal {a b : Log32 Word} : (a.legal && b.legal) = true ↔ LegalSign a.sign ∧ LegalSign b.sign := by
  rw [Bool.and_eq_true, legal_iff_legalSign, legal_iff_legalSign]

section Requests

variable {s : State} (hc : s.config.valid = true) {a b : Log32 Word}

include hc

theorem answers_toLog32 {v : Int} (hv : FitsS32 v) :
    Answers s (.toLog32 (word v)) (log32Word (toLog32 s.config v)).words :=
  answers_iff.2 ⟨rfl, hc, by rw [response, s32_word_of_fits hv, words_log32Word]⟩

theorem answers_fromLog32 (ha : LegalSign a.sign) :
    Answers s (.fromLog32 a) [word (fromLog32 s.config (log32Read a))] :=
  answers_iff.2 ⟨(legal_iff_legalSign a).2 ha, hc, rfl⟩

theorem answers_log32Pow (ha : LegalSign a.sign) (k : Word) :
    Answers s (.log32Pow a k) (log32Word (log32Pow (log32Read a) (s32 k))).words :=
  answers_iff.2 ⟨(legal_iff_legalSign a).2 ha, hc, rfl⟩

variable (ha : LegalSign a.sign) (hb : LegalSign b.sign)

include ha hb

theorem answers_log32Mul : Answers s (.log32Mul a b) (log32Word (log32Mul (log32Read a) (log32Read b))).words :=
  answers_iff.2 ⟨legal_and_legal.2 ⟨ha, hb⟩, hc, rfl⟩

theorem answers_log32Div : Answers s (.log32Div a b) (log32Word (log32Div (log32Read a) (log32Read b))).words :=
  answers_iff.2 ⟨legal_and_legal.2 ⟨ha, hb⟩, hc, rfl⟩

theorem answers_log32Add :
    Answers s (.log32Add a b) (log32Word (log32Add s.config (log32Read a) (log32Read b))).words :=
  answers_iff.2 ⟨legal_and_legal.2 ⟨ha, hb⟩, hc, rfl⟩

end Requests

end Machine

/-! ### The statements -/

namespace RingAlgebra

/-- Settles O53: the response word of LOG2 on the magnitude is the log word of the element. -/
theorem toLog32ByLog2 : Obligations.ToLog32ByLog2 := by
  intro s v hc
  refine ⟨decode_of_encode_eq rfl rfl, _, answers_log2_magnitude hc v, answers_iff.2 ⟨rfl, hc, ?_⟩⟩
  rw [response, toLog32, ← s32]
  simp only [s32_eq_zero_iff]
  split_ifs <;> rfl

/-- Settles O54: away from zero the result is `signed_result` of the exponential, which `withSignOf` is, too. -/
theorem fromLog32ByExp2 : Obligations.FromLog32ByExp2 := by
  intro s a hc ha
  have hans := answers_fromLog32 hc ha
  refine ⟨decode_of_encode_eq ((legal_iff_legalSign a).2 ha) rfl, _, answers_exp2 hc a.log, ?_⟩
  split_ifs with h₀
  · rwa [fromLog32_of_zero _ (sign_eq_zero_iff.2 h₀)] at hans
  · obtain ⟨h₁, h₂⟩ := exp2z_bounds hc a.log.toInt
    rw [withSignOf_word h₁ h₂]
    rwa [fromLog32_of_sign _ (mt sign_eq_zero_iff.1 h₀)] at hans

/-- Settles O57: each clause is one case of the sum; in the linear domain the two terms are narrowed, so that they and
their narrowed sum read back from their words. -/
theorem log32AddByCases : Obligations.Log32AddByCases := by
  intro s a b hc ha hb
  have hans := answers_log32Add hc ha hb
  refine ⟨decode_of_encode_eq (legal_and_legal.2 ⟨ha, hb⟩) rfl, fun ha₀ hb₀ => ?_, fun ha₀ hb₀ => ?_,
    fun ha₀ hb₀ => ?_, fun ha₀ hab => ?_, fun ha₀ hb₀ hab => ?_⟩
  · rwa [log32Add_of_zeros _ (sign_eq_zero_iff.2 ha₀) (sign_eq_zero_iff.2 hb₀)] at hans
  · rwa [log32Add_of_left_zero _ (sign_eq_zero_iff.2 ha₀) (mt sign_eq_zero_iff.1 hb₀), log32Word_log32Read] at hans
  · rwa [log32Add_of_right_zero _ (mt sign_eq_zero_iff.1 ha₀) (sign_eq_zero_iff.2 hb₀), log32Word_log32Read] at hans
  · refine ⟨_, lseRom_entry hc (s32 a.log - s32 b.log).natAbs, ?_⟩
    have hsign : (log32Read a).sign = (log32Read b).sign := congrArg s32 hab
    rw [log32Add_of_like_signs _ (mt sign_eq_zero_iff.1 ha₀) hsign] at hans
    rw [limitLog_eq_satlog, ← word_s32 a.sign]
    exact hans
  · have hx := s32_word_of_fits (fromLog32_fits s.config (log32Read a))
    have hy := s32_word_of_fits (fromLog32_fits s.config (log32Read b))
    rw [log32Add_of_unlike_signs _ (mt sign_eq_zero_iff.1 ha₀) (mt sign_eq_zero_iff.1 hb₀)
      (mt BitVec.eq_of_toInt_eq hab)] at hans
    refine ⟨_, _, _, answers_fromLog32 hc ha, answers_fromLog32 hc hb, ?_, hans⟩
    rw [limit32_eq_sat32, ← s32, ← s32, hx, hy]
    exact answers_toLog32 hc (sat32_bounds _)

/-- Settles O58: both requests answer the words of one element. -/
theorem log32AddCommutes : Obligations.Log32AddCommutes := by
  intro s a b hc ha hb
  have hswap := answers_log32Add hc hb ha
  rw [log32Add_comm] at hswap
  exact ⟨_, answers_log32Add hc ha hb, hswap⟩

/-- Settles O59: the product is written as R72 (b) says, so the division reads back the element that was computed. -/
theorem log32DivUndoesLog32Mul : Obligations.Log32DivUndoesLog32Mul := by
  intro s a b hc ha hb ha₀ hb₀ hlo hhi
  have hp := log32Mul_isRingResult (isUnit_log32Read_sign ha) (isUnit_log32Read_sign hb)
  have hans := answers_log32Div hc (log32Word_wellFormed hp).1 hb
  rw [log32Read_log32Word hp, log32Div_log32Mul (isUnit_sign ha ha₀) (isUnit_sign hb hb₀) hlo hhi] at hans
  refine ⟨_, answers_log32Mul hc ha hb, ?_⟩
  rw [← word_satlog_s32, ← word_s32 a.sign]
  exact hans

/-- Settles O60: the result of each of the five operations is written as R72 (b) says, and its words show it. -/
theorem ringResultsAreWellFormed : Obligations.RingResultsAreWellFormed := by
  intro s i r hans hi
  obtain ⟨hwf, hc, rfl⟩ := answers_iff.1 hans
  have hwords {x : Log32 Int} (hx : IsRingResult x) :
      ∃ sign log : Word, log32Out x = [sign, log] ∧ LegalSign sign ∧ (sign = 0#32 ↔ log = 0x80000000#32) :=
    ⟨_, _, rfl, log32Word_wellFormed hx⟩
  obtain ⟨v, rfl⟩ | ⟨a, b, rfl⟩ | ⟨a, b, rfl⟩ | ⟨a, k, rfl⟩ | ⟨a, b, rfl, hla, hlb⟩ := hi
  · exact hwords (toLog32_isRingResult hc (s32_bounds v))
  · obtain ⟨ha, hb⟩ := legal_and_legal.1 hwf
    exact hwords (log32Mul_isRingResult (isUnit_log32Read_sign ha) (isUnit_log32Read_sign hb))
  · obtain ⟨ha, hb⟩ := legal_and_legal.1 hwf
    exact hwords (log32Div_isRingResult (isUnit_log32Read_sign ha) (isUnit_log32Read_sign hb))
  · exact hwords (log32Pow_isRingResult _ _)
  · obtain ⟨ha, hb⟩ := legal_and_legal.1 hwf
    exact hwords (log32Add_isRingResult hc (log32Read_isNonzeroElement ha hla) (log32Read_isNonzeroElement hb hlb))

/-- Settles O55: each case of the two operations, the product of the signs written with a test. -/
theorem log32MulAndDiv : Obligations.Log32MulAndDiv := by
  intro s a b hc ha hb
  have hwf := legal_and_legal.2 ⟨ha, hb⟩
  have hmul := answers_log32Mul hc ha hb
  have hdiv := answers_log32Div hc ha hb
  simp only [limitLog_eq_satlog]
  refine ⟨decode_of_encode_eq hwf rfl, decode_of_encode_eq hwf rfl, ?_, ?_⟩
  · by_cases h₀ : a.sign = 0#32 ∨ b.sign = 0#32
    · rw [log32Mul_of_zero (h₀.imp sign_eq_zero_iff.2 sign_eq_zero_iff.2)] at hmul
      rw [if_pos h₀]
      exact hmul
    · obtain ⟨ha₀, hb₀⟩ := not_or.1 h₀
      rw [log32Mul_of_signs (mt sign_eq_zero_iff.1 ha₀) (mt sign_eq_zero_iff.1 hb₀)] at hmul
      rw [if_neg h₀, ← word_mul_sign ha hb ha₀ hb₀]
      exact hmul
  · by_cases hb₀ : b.sign = 0#32
    · rw [log32Div_by_zero (sign_eq_zero_iff.2 hb₀)] at hdiv
      rw [if_pos hb₀, ← word_sign_div_zero ha]
      exact hdiv
    · rw [if_neg hb₀]
      by_cases ha₀ : a.sign = 0#32
      · rw [log32Div_of_zero (sign_eq_zero_iff.2 ha₀) (mt sign_eq_zero_iff.1 hb₀)] at hdiv
        rw [if_pos ha₀]
        exact hdiv
      · rw [log32Div_of_signs (mt sign_eq_zero_iff.1 ha₀) (mt sign_eq_zero_iff.1 hb₀)] at hdiv
        rw [if_neg ha₀, ← word_mul_sign ha hb ha₀ hb₀]
        exact hdiv

/-- Settles O56: the two cases of the power. -/
theorem log32Pow : Obligations.Log32Pow := by
  intro s a k hc ha
  have hans := answers_log32Pow hc ha k
  refine ⟨decode_of_encode_eq ((legal_iff_legalSign a).2 ha) rfl, ?_⟩
  split_ifs with h₀
  · rwa [log32Pow_of_zero (sign_eq_zero_iff.2 h₀)] at hans
  · rw [limitLog_eq_satlog]
    rwa [log32Pow_of_sign (mt sign_eq_zero_iff.1 h₀)] at hans

end RingAlgebra

end Sys2Proof
end

section
/-! Proofs of the statements of 70_reset_and_hazards.md: the state after reset, and the reset input as a step. -/

namespace Sys2Proof.Machine

/-! ### The state after reset -/

/-- Right after reset no response has been received that could break the invariant (log entry 3). -/
theorem State.Inv.initial {c : Config} (hc : c.valid = true) : (State.initial c).Inv := by
  refine ⟨hc, fun r hr => ?_⟩
  rw [State.initial_responses] at hr
  exact absurd hr List.not_mem_nil

/-- Settles O16: `State.reset` is the initial state of the reference configuration, which is valid. -/
theorem resetHasInv : Obligations.ResetHasInv :=
  ⟨fun _ hc => .initial hc, .initial Config.reference_valid⟩

/-- Settles O18: the lists and the configuration of the reset state; the parameters are read off that configuration. -/
theorem resetState : Obligations.ResetState := by
  refine ⟨State.reset_inputs, State.reset_responses, State.reset_config, ?_⟩
  rw [State.reset_config]
  exact ⟨Config.reference_valid, rfl, rfl, rfl, rfl, rfl, rfl⟩

/-! ### The reset input -/

@[simp] theorem State.resetInput_eq (s : State) (cut : Packet) : s.resetInput cut = s := rfl

/-- A reset at the head of the host's list is taken off it and reaches the unit (R87). -/
theorem step_of_reset {s : State} (hv : s.config.valid = true) {cut : Packet} {rest : List HostEvent}
    (hin : s.inputs = .reset cut :: rest) : step s = .next (State.resetInput { s with inputs := rest } cut) :=
  (step_of_valid hv).trans (runHead_cons hin)

/-- Settles O17: the step takes the event off the list, and the reset input itself changes nothing (R15, R87). -/
theorem resetInputDiscardsTheRequest : Obligations.ResetInputDiscardsTheRequest := by
  intro s cut rest hv hin
  rw [step_of_reset hv hin, State.resetInput_eq]

end Sys2Proof.Machine
end
